-- ==== Sys2Proof/Word.lean ====
section
/-! DEFINITION. The word of the ring and its two readings (R184). -/

namespace Sys2Proof

/-- A 16-bit word of a frame or of a table image (R184). -/
abbrev Word := BitVec 16

/-- The word that holds a number, modulo 65536. -/
abbrev Word.ofNat (n : Nat) : Word := BitVec.ofNat 16 n

/-- The word that holds a signed number in two's complement (R184). -/
abbrev Word.ofInt (i : Int) : Word := BitVec.ofInt 16 i

end Sys2Proof
end

