-- ==== Sys2Proof/Syntax.lean ====
section
/-! DEFINITION. The commands: one constructor for each row of spec/opcode_table.json. -/

namespace Sys2Proof

/-- The content of a SAMPLE frame that has passed the checks of R1 (11.2): its sequence number, the
codes of channels 0..27 in channel order, and its driver status word. -/
structure SampleFrame where
  seq    : Word
  codes  : List Word
  status : Word
  deriving DecidableEq, Repr

/-- The two arrivals after which an out slot can open and an episode can end (R107, R126): the
arrival of a SAMPLE frame, or the expiry of the silence timer. -/
inductive Occasion where
  | sample (f : SampleFrame)
  | silence
  deriving DecidableEq, Repr

/-- A command. Three kinds (INVENTORY.md): arrivals and lines; events, each the whole step in which
the event comes about and so carrying the arrival that causes it (spec/95, log 2); and requests,
with their arguments as 11.2 places them. -/
inductive Instr where
  -- arrivals and lines
  | sampleFrame (f : SampleFrame)
  | discardWithoutTrace (frame : List Word)
  | powerOnReset (lineAsserted : Bool)
  | resetLineRelease
  | silenceExpiry
  -- events
  | windowRefillDone (f : SampleFrame)
  | lockGained (f : SampleFrame)
  | badCrossingUnlock (f : SampleFrame)
  | quietUnlock (f : SampleFrame)
  | referenceBecameTracking (f : SampleFrame)
  | forcedReturn (f : SampleFrame)
  | sagStart (f : SampleFrame)
  | sagEnd (f : SampleFrame)
  | feedbackAccepted (f : SampleFrame)
  | openConfirmed (f : SampleFrame)
  | openStuck (f : SampleFrame)
  | closeConfirmed (f : SampleFrame)
  | closeStuck (f : SampleFrame)
  | overcurrent (f : SampleFrame)
  | armApplied (f : SampleFrame)
  | disarmApplied (f : SampleFrame)
  | automaticRearm (f : SampleFrame)
  | deferredApplication (o : Occasion)
  | answerPart (o : Occasion)
  | alertFrame (o : Occasion)
  -- requests
  | unknownRequest (code arg1 arg2 arg3 : Word) (data : List Word)
  | readIdent
  | readStatus
  | readSection (sec : Word)
  | readTable (table offset count : Word)
  | fetchRecord
  | discardRecord (seq : Word)
  | run
  | halt
  | restart
  | armSection (sec : Word)
  | disarmSection (sec : Word)
  | clearFault (sec : Word)
  | beginLoad (table words : Word)
  | loadWords (offset count : Word) (data : List Word)
  | commitTable (table : Word)
  | dropLoad
  | lockTable (table level : Word)
  | unlockTable (table : Word) (mnt : Bool)
  | clearLoadFlags
  | setAlertMask (marks : Word)
  | clearAlerts (marks : Word)
  deriving DecidableEq, Repr

end Sys2Proof
end

