-- ==== Sys2Proof/Decode.lean ====
section
/-! DEFINITION. Table words. No row of spec/opcode_table.json gives its command any bits: the commands
are frames and line events, and a frame's own words are read by Machine/Link.lean. -/

namespace Sys2Proof

/-- The command that a word spells by the table's bits: none, since no row has any (log 8). -/
def decodeTableWord (_nbits _w : Nat) : Option Instr := none

end Sys2Proof
end

