-- ==== Sys2Proof/Config.lean ====
section
/-! DEFINITION. What the manual fixes for the part once and for all. The manual leaves no value to an
implementation and no result undefined, so there is no free value here. -/

namespace Sys2Proof.Config

/-- Vendor code of Nelkian in READ_IDENT (R175, 11.2). -/
def vendorCode : Nat := 214

/-- Part code of the Indamo Q416 in READ_IDENT (R175, 11.2). -/
def partCode : Nat := 416

/-- Design level in READ_IDENT (R175, 11.2). -/
def designLevel : Nat := 1

/-- Number of sections (R175). -/
def sectionCount : Nat := 4

/-- Number of sample channels (R175). -/
def channelCount : Nat := 28

/-- Most records the list holds (R147, R175). -/
def recordCapacity : Nat := 32

/-- Words of the staging buffer (R158, R175). -/
def stagingWords : Nat := 256

/-- Silence limit in microseconds while the Reference Table is not valid (R6). -/
def defaultSilence : Nat := 500

/-- Feedback filter length while the Section Table is not valid (R85). -/
def defaultFilter : Nat := 3

/-- Gain of every channel while the Calibration Table is not valid (R10). -/
def unitGain : Nat := 16384

/-- Angle units of one cycle (00 section 4.4). -/
def cycle : Nat := 49152

/-- Nominal advance of the supply phase from one frame to the next (00 section 4.4). -/
def nominalAdvance : Nat := 384

/-- The value that stands for nominal: 8192 (00 section 4.2). -/
def nominal : Nat := 8192

/-- Largest value of a 32-bit count (R50). -/
def maxCount : Nat := 4294967295

/-- Most values a level window holds (R14). -/
def windowSize : Nat := 64

/-- Fewest values with which a window has a level (R15). -/
def windowMin : Nat := 16

/-- Frames without a crossing after which the tracker unlocks (R26). -/
def quietLimit : Nat := 256

/-- End of the range of the return timer (02, state table). -/
def returnTimerMax : Nat := 16320

/-- Level below which a phase has no waveform to scale (R115). -/
def lostLevel : Nat := 82

/-- Bound of the energy index of a record entry (R120). -/
def energyBound : Int := 2147483647

end Sys2Proof.Config
end

