-- ==== Sys2Proof/Machine/Link.lean ====
section
/-! DEFINITION. What the In port sees of a frame: header, CRC, length and fields (R1, R184, R185, 11.1, 11.2). -/

namespace Sys2Proof.Machine

/-- One bit into the CRC register: shift toward bit 15, then combine with 4129 when the bit that left
differs from the frame bit (R185). -/
def crcBit (reg : Word) (bit : Bool) : Word :=
  if reg.getLsbD 15 != bit then (reg <<< 1) ^^^ 4129 else reg <<< 1

/-- The bits of a word from bit `n - 1` down to bit 0. -/
def bitsFrom (w : Word) : Nat → List Bool
  | 0 => []
  | n + 1 => w.getLsbD n :: bitsFrom w n

/-- One word into the CRC register, bit 15 first (R185). -/
def crcWord (reg : Word) (w : Word) : Word :=
  (bitsFrom w 16).foldl crcBit reg

/-- The CRC of a sequence of words (R185): the register starts at 65535 and is not inverted at the end. -/
def crc (ws : List Word) : Word :=
  ws.foldl crcWord 65535

/-- A frame made of its words before the CRC word and of its CRC (R185). -/
def sealFrame (ws : List Word) : List Word :=
  ws ++ [crc ws]

/-- The kind field of a header word (11.1). -/
def headerKind (header : Word) : Nat := header.toNat % 16

/-- The fixed length of the two kinds the In port takes; every other kind is unknown there (R1, 11.1). -/
def inPortLength (kind : Nat) : Option Nat :=
  if kind = 1 then some 32 else if kind = 2 then some 22 else none

/-- The checks of R1 as R185 makes them: kind SAMPLE or MANAGE, the kind's length, and a CRC equal to
the last word. -/
def passesChecks (frame : List Word) : Bool :=
  match inPortLength (headerKind (frame.getD 0 0)) with
  | none => false
  | some len => frame.length == len && frame.getD (len - 1) 0 == crc (frame.take (len - 1))

/-- The SAMPLE frame whose words are `frame` (11.2). -/
def sampleOfWords (frame : List Word) : SampleFrame :=
  { seq := frame.getD 1 0
    codes := (frame.drop 2).take Config.channelCount
    status := frame.getD 30 0 }

/-- The words of the SAMPLE frame with content `f` (11.2), as the concentrator sends it: kind 1, the
slot-free and origin bits 0. -/
def wordsOfSample (f : SampleFrame) : List Word :=
  sealFrame ([1, f.seq] ++ f.codes ++ [f.status])

end Sys2Proof.Machine
end

