-- ==== Sys2Proof/Machine/Arith.lean ====
section
/-! DEFINITION. The arithmetic of the Conventions: roundings, angles, the sine, the square root of a
level, and the exact comparisons with a permille threshold (00 sections 4.2 to 4.6). -/

namespace Sys2Proof.Machine

/-! ### Rounding (00 section 4.6) -/

/-- The exact quotient `n / d` rounded to the nearest integer, ties away from zero. -/
def roundDiv (n : Int) (d : Nat) : Int :=
  if n < 0 then -(((2 * n.natAbs + d) / (2 * d) : Nat) : Int) else ((2 * n.natAbs + d) / (2 * d) : Nat)

/-- The exact quotient `n / d` truncated toward zero. -/
def truncDiv (n : Int) (d : Nat) : Int := Int.tdiv n d

/-- A value kept within `lo..hi`. -/
def clampInt (lo hi x : Int) : Int := max lo (min hi x)

/-! ### Levels (00 section 4.3, R15) -/

/-- Square root by bits: with `fuel` bits left to decide, `root` is the part found so far. -/
def isqrtBits (m : Nat) : Nat → Nat → Nat
  | 0, root => root
  | fuel + 1, root =>
    if (root + 2 ^ fuel) * (root + 2 ^ fuel) ≤ m then isqrtBits m fuel (root + 2 ^ fuel)
    else isqrtBits m fuel root

/-- The largest integer whose square does not exceed `m` (R15). -/
def isqrt (m : Nat) : Nat := isqrtBits m (m.log2 / 2 + 1) 0

/-- Level `l` is below the permille threshold `t`: l × 1000 < t × 8192, exactly (00 section 4.3). -/
def levelBelow (l t : Nat) : Bool := l * 1000 < t * Config.nominal

/-- A level reported in permille (00 section 4.3). -/
def permille (l : Nat) : Nat := l * 1000 / Config.nominal

/-! ### Angles (00 section 4.4) -/

/-- An angle sum or difference taken modulo 49152. -/
def angle (x : Int) : Nat := (x % (Config.cycle : Int)).toNat

/-- The wrapped form of an angle, within -24576..24575. -/
def wrapped (a : Nat) : Int := if a < 24576 then (a : Int) else (a : Int) - Config.cycle

/-! ### The sine (00 section 4.5) -/

/-- One Horner step of the sine series at x = n/d, on a fraction `(p, q)`: 1 - x²/(2j(2j+1)) × p/q. -/
def sineHorner (n d : Nat) (j : Nat) (v : Int × Nat) : Int × Nat :=
  let q := d * d * (2 * j * (2 * j + 1)) * v.2
  ((q : Int) - (n * n : Nat) * v.1, q)

/-- The sine of `n / d` radians by the first eleven terms of its series, as an exact fraction. -/
def sineSeries (n d : Nat) : Int × Nat :=
  let v := [1, 2, 3, 4, 5, 6, 7, 8, 9, 10].foldr (sineHorner n d) (1, 1)
  ((n : Int) * v.1, d * v.2)

/-- π as a fraction, 31 decimals. -/
def piNum : Nat := 31415926535897932384626433832795

/-- The denominator of π's fraction. -/
def piDen : Nat := 10000000000000000000000000000000

/-- s(a) on the first quarter cycle, a ≤ 12288: round(8192 × sin(2πa/49152)). The series' error and
that of π stay far below the distance of every such value from a tie (log 20). -/
def sineQuarter (a : Nat) : Int :=
  let v := sineSeries (a * piNum) (24576 * piDen)
  roundDiv (8192 * v.1) v.2

/-- s(a) of an angle a (00 section 4.5), by the symmetries of the sine. -/
def sine (a : Nat) : Int :=
  if a < 12288 then sineQuarter a
  else if a < 24576 then sineQuarter (24576 - a)
  else if a < 36864 then -sineQuarter (a - 24576)
  else -sineQuarter (49152 - a)

end Sys2Proof.Machine
end

