-- ==== Sys2Proof/Machine/Kinds.lean ====
section
/-! DEFINITION. The names the manual enumerates (11.4) and the fixed families of like things: three
phases, four sections, four classes, six tables, eleven alert kinds. -/

namespace Sys2Proof.Machine

/-! ### Families -/

/-- A supply or load phase (00 section 4.4). -/
inductive Phase where
  | A | B | C
  deriving DecidableEq, Repr

/-- One thing for each phase. -/
structure Phases (α : Type) where
  a : α
  b : α
  c : α
  deriving DecidableEq, Repr

/-- The thing of one phase. -/
def Phases.get {α : Type} (x : Phases α) : Phase → α
  | .A => x.a
  | .B => x.b
  | .C => x.c

/-- The same thing for each phase. -/
def Phases.all {α : Type} (v : α) : Phases α := ⟨v, v, v⟩

/-- A family given by what stands at each phase. -/
def Phases.build {α : Type} (g : Phase → α) : Phases α := ⟨g .A, g .B, g .C⟩

/-- The three things in the order A, B, C. -/
def Phases.toList {α : Type} (x : Phases α) : List α := [x.a, x.b, x.c]

/-- One thing for each of four sections or four classes; section k stands at index k - 1, class c at
index c. -/
structure Four (α : Type) where
  i0 : α
  i1 : α
  i2 : α
  i3 : α
  deriving DecidableEq, Repr

/-- The thing at one index. -/
def Four.get {α : Type} (x : Four α) : Fin 4 → α
  | 0 => x.i0
  | 1 => x.i1
  | 2 => x.i2
  | 3 => x.i3

/-- The family with one thing replaced. -/
def Four.set {α : Type} (x : Four α) (i : Fin 4) (v : α) : Four α :=
  match i with
  | 0 => { x with i0 := v }
  | 1 => { x with i1 := v }
  | 2 => { x with i2 := v }
  | 3 => { x with i3 := v }

/-- The same thing at each index. -/
def Four.all {α : Type} (v : α) : Four α := ⟨v, v, v, v⟩

/-- A family given by what stands at each index. -/
def Four.build {α : Type} (g : Fin 4 → α) : Four α := ⟨g 0, g 1, g 2, g 3⟩

/-- A family with a function applied to each thing. -/
def Four.map {α β : Type} (g : α → β) (x : Four α) : Four β := ⟨g x.i0, g x.i1, g x.i2, g x.i3⟩

/-- The four things in index order. -/
def Four.toList {α : Type} (x : Four α) : List α := [x.i0, x.i1, x.i2, x.i3]

/-- The four indices in order. -/
def four : List (Fin 4) := [0, 1, 2, 3]

/-- A table by its identifier 0..5 (00 section 1). -/
inductive TableId where
  | calibration | supply | sections | curves | store | reference
  deriving DecidableEq, Repr

/-- One thing for each table. -/
structure Tables (α : Type) where
  calibration : α
  supply : α
  sections : α
  curves : α
  store : α
  reference : α
  deriving DecidableEq, Repr

/-- The thing of one table. -/
def Tables.get {α : Type} (x : Tables α) : TableId → α
  | .calibration => x.calibration
  | .supply => x.supply
  | .sections => x.sections
  | .curves => x.curves
  | .store => x.store
  | .reference => x.reference

/-- The family with the thing of one table replaced. -/
def Tables.set {α : Type} (x : Tables α) (t : TableId) (v : α) : Tables α :=
  match t with
  | .calibration => { x with calibration := v }
  | .supply => { x with supply := v }
  | .sections => { x with sections := v }
  | .curves => { x with curves := v }
  | .store => { x with store := v }
  | .reference => { x with reference := v }

/-- The same thing for each table. -/
def Tables.all {α : Type} (v : α) : Tables α := ⟨v, v, v, v, v, v⟩

/-- The six things in identifier order. -/
def Tables.toList {α : Type} (x : Tables α) : List α :=
  [x.calibration, x.supply, x.sections, x.curves, x.store, x.reference]

/-- An alert kind, named in the order of the priority numbers 0..10 (R179). -/
inductive AlertKind where
  | linkSilent | sectionFault | sectionReleased | storeLow | sagStart | sectionDegraded
  | episodeEnd | trackerUnlock | measurementBreak | commitDone | requestOverrun
  deriving DecidableEq, Repr

/-- One thing for each alert kind. -/
structure PerKind (α : Type) where
  linkSilent : α
  sectionFault : α
  sectionReleased : α
  storeLow : α
  sagStart : α
  sectionDegraded : α
  episodeEnd : α
  trackerUnlock : α
  measurementBreak : α
  commitDone : α
  requestOverrun : α
  deriving DecidableEq, Repr

/-- The thing of one alert kind. -/
def PerKind.get {α : Type} (x : PerKind α) : AlertKind → α
  | .linkSilent => x.linkSilent
  | .sectionFault => x.sectionFault
  | .sectionReleased => x.sectionReleased
  | .storeLow => x.storeLow
  | .sagStart => x.sagStart
  | .sectionDegraded => x.sectionDegraded
  | .episodeEnd => x.episodeEnd
  | .trackerUnlock => x.trackerUnlock
  | .measurementBreak => x.measurementBreak
  | .commitDone => x.commitDone
  | .requestOverrun => x.requestOverrun

/-- The family with the thing of one alert kind replaced. -/
def PerKind.set {α : Type} (x : PerKind α) (k : AlertKind) (v : α) : PerKind α :=
  match k with
  | .linkSilent => { x with linkSilent := v }
  | .sectionFault => { x with sectionFault := v }
  | .sectionReleased => { x with sectionReleased := v }
  | .storeLow => { x with storeLow := v }
  | .sagStart => { x with sagStart := v }
  | .sectionDegraded => { x with sectionDegraded := v }
  | .episodeEnd => { x with episodeEnd := v }
  | .trackerUnlock => { x with trackerUnlock := v }
  | .measurementBreak => { x with measurementBreak := v }
  | .commitDone => { x with commitDone := v }
  | .requestOverrun => { x with requestOverrun := v }

/-- A family given by what stands at each alert kind. -/
def PerKind.build {α : Type} (g : AlertKind → α) : PerKind α :=
  ⟨g .linkSilent, g .sectionFault, g .sectionReleased, g .storeLow, g .sagStart, g .sectionDegraded,
   g .episodeEnd, g .trackerUnlock, g .measurementBreak, g .commitDone, g .requestOverrun⟩

/-- The same thing for each alert kind. -/
def PerKind.all {α : Type} (v : α) : PerKind α := ⟨v, v, v, v, v, v, v, v, v, v, v⟩

/-! ### Enumerations (11.4) -/

/-- Measurement state (R2, R5). -/
inductive MeasState where
  | unseen | running | silent
  deriving DecidableEq, Repr

/-- Kind of step of an accepted frame (R3, R17). -/
inductive StepKind where
  | normal | shortGap | brk
  deriving DecidableEq, Repr

/-- A bypass position, reported, accepted or commanded (R12, R82). -/
inductive Position where
  | closed | opened
  deriving DecidableEq, Repr

/-- Bridge command (R82). -/
inductive Bridge where
  | blocked | active
  deriving DecidableEq, Repr

/-- Lock state of the tracker (R24). -/
inductive LockState where
  | unlocked | locking | locked
  deriving DecidableEq, Repr

/-- Reference-in-force (R28). -/
inductive RefInForce where
  | tracking | held | slewing
  deriving DecidableEq, Repr

/-- Detector state (R47 to R54). -/
inductive DetState where
  | clear | suspect | sag | ending
  deriving DecidableEq, Repr

/-- Kind of a sag trigger (R48). -/
inductive TriggerKind where
  | slow | fast
  deriving DecidableEq, Repr

/-- Run state (R79). -/
inductive RunState where
  | halted | running
  deriving DecidableEq, Repr

/-- Section state; RETURNING is given with its phase (R82). -/
inductive SecState where
  | out | bypassed | armed | watching | injecting | returningSlewing | returningClosing | releasing | fault
  deriving DecidableEq, Repr

/-- Service level (R94). -/
inductive Service where
  | full | degraded
  deriving DecidableEq, Repr

/-- The bypass movement being confirmed (R86). -/
inductive Confirm where
  | none | opening | closing
  deriving DecidableEq, Repr

/-- Pending request (R102, R103). -/
inductive Pending where
  | none | arm | disarm
  deriving DecidableEq, Repr

/-- Leave causes and fault causes (11.4). -/
inductive Cause where
  | none | store | notReady | halt | request | overcurrent | linkSilent | restart | table
  | bridge | openStuck | closeStuck | openUncommanded | closeUncommanded
  deriving DecidableEq, Repr

/-- Last arm outcome (11.4). -/
inductive ArmOutcome where
  | none | applied | discardedConditions | discardedSag | withdrawn
  deriving DecidableEq, Repr

/-- Outcome kept in a section entry of a record (R151). -/
inductive EntryOutcome where
  | notArmed | watched | full | degraded | releasedStore | releasedRequest | releasedHalt
  | overcurrent | fault | linkSilent
  deriving DecidableEq, Repr

/-- End cause of a record (R153). -/
inductive EndCause where
  | recovered | superseded | linkSilent | restart
  deriving DecidableEq, Repr

/-- Class band (R135). -/
inductive Band where
  | serve | degrade | release
  deriving DecidableEq, Repr

/-- How a phase's reference was found (06, item table). -/
inductive Method where
  | none | restore | inphase | floorMet | floor | lost
  deriving DecidableEq, Repr

/-- Strategy of a section (05 section 5.1). -/
inductive Strategy where
  | restore | inphase
  deriving DecidableEq, Repr

/-- Lock level of a table (R168). -/
inductive LockLevel where
  | unlocked | locked | fixed
  deriving DecidableEq, Repr

/-- Result code of an answer (10.2). -/
inductive ResultCode where
  | ok | pending | refusedState | badArgument | locked | noLoad | loadOpen | statusNotClear
  | incomplete | tableInvalid | notFound | unknownRequest
  deriving DecidableEq, Repr

/-- Origin of a DRIVE frame (R124). -/
inductive Origin where
  | sample | silence
  deriving DecidableEq, Repr

end Sys2Proof.Machine
end

