-- ==== Sys2Proof/Machine/State.lean ====
section
/-! DEFINITION. The state of the engine: what each block owns (00 section 3), the two lines, the queue
of waiting commands and the Out port, and the values after a power-on reset. -/

namespace Sys2Proof.Machine

/-! ### Link interface -/

/-- State of the link interface (01, R5). -/
structure Link where
  meas    : MeasState
  lastSeq : Word
  counter : BitVec 32
  /-- The silence timer: idle (none), or running with the limit in microseconds it keeps (R6). -/
  timer   : Option Nat
  deriving DecidableEq, Repr

/-! ### Measurement front end -/

/-- The three status bits one driver reports (R12). -/
structure DriverStatus where
  position    : Position
  bridgeFault : Bool
  ready       : Bool
  deriving DecidableEq, Repr

/-- A level window: its values from oldest to newest, and the sum of their squares S (R14). -/
structure Window where
  values : List Int
  sumSq  : Nat
  deriving DecidableEq, Repr

/-- The fifteen levels; a level that is not valid is none (R15). -/
structure Levels where
  supply : Phases (Option Nat)
  load   : Four (Phases (Option Nat))
  deriving DecidableEq, Repr

/-- A published measurement set (R17). -/
structure MeasSet where
  frameNumber : BitVec 32
  kind        : StepKind
  gap         : Nat
  values      : List Int
  status      : Four DriverStatus
  levels      : Levels
  deriving DecidableEq, Repr

/-- State of the measurement front end (01, R18). `held` is none until a set has been received. -/
structure FrontEnd where
  held       : Option (List Int)
  status     : Four DriverStatus
  supplyWin  : Phases Window
  loadWin    : Four (Phases Window)
  gap        : Nat
  published  : Option MeasSet
  deriving DecidableEq, Repr

/-! ### Reference tracker -/

/-- The marks of the frame that the tracker publishes (R34). -/
structure TrackerMarks where
  boundary       : Bool
  crossing       : Bool
  crossingGood   : Bool
  heldAdvanced   : Nat
  becameTracking : Bool
  forcedReturn   : Bool
  deriving DecidableEq, Repr

/-- State of the reference tracker (02). -/
structure Tracker where
  live        : Nat
  incLive     : Nat
  lock        : LockState
  good        : Nat
  bad         : Nat
  quiet       : Nat
  held        : Nat
  incHeld     : Nat
  ref         : RefInForce
  settle      : Nat
  returnTimer : Nat
  marks       : TrackerMarks
  deriving DecidableEq, Repr

/-! ### Sag detector -/

/-- What started a sag (R48). -/
structure Trigger where
  kind  : TriggerKind
  phase : Phase
  deriving DecidableEq, Repr

/-- State of the sag detector (03). `endingElapsed` is the elapsed frames at the first frame of the
present ENDING run, which R54 needs (log 9). -/
structure Detector where
  state         : DetState
  fast          : Phases Nat
  slow          : Phases Nat
  recovery      : Nat
  suspended     : Bool
  trigger       : Option Trigger
  involved      : Phases Bool
  elapsed       : Nat
  endingElapsed : Nat
  sagDuration   : Option Nat
  phaseJump     : Option Int
  sagStart      : Bool
  sagEnd        : Bool
  deriving DecidableEq, Repr

/-! ### Demand evaluator -/

/-- What the demand evaluator publishes for a section (R75). -/
structure Demand where
  required    : Nat
  needed      : Bool
  floorTarget : Nat
  deriving DecidableEq, Repr

/-! ### Section controller -/

/-- State of one section (05). `confirmFresh`: the confirm was begun by a request and no frame has
commanded the new position yet; `confirmTimedOut`: it has timed out once (R86, R88, log 10). -/
structure Section where
  state           : SecState
  service         : Service
  feedback        : Position
  filterCount     : Nat
  confirm         : Confirm
  confirmTimer    : Nat
  confirmFresh    : Bool
  confirmTimedOut : Bool
  closeSeen       : Bool
  faultCause      : Option Cause
  pendingReq      : Pending
  eligible        : Bool
  hold            : Bool
  overCount       : Nat
  lastLeave       : Cause
  lastArm         : ArmOutcome
  deriving DecidableEq, Repr

/-- State of the section controller (05). -/
structure Controller where
  run      : RunState
  episode  : Bool
  sections : Four Section
  deriving DecidableEq, Repr

/-! ### Injection unit -/

/-- What the injection unit publishes for a section (R118). -/
structure Injection where
  refs    : Phases Int
  uEff    : Nat
  method  : Phases Method
  limited : Bool
  energy  : Int
  deriving DecidableEq, Repr

/-! ### Store allocator -/

/-- What the allocator derives from a Store Table and holds (R130). -/
structure StoreLevels where
  vmin    : Nat
  degrade : Four Nat
  release : Four Nat
  ready   : Four Nat
  deriving DecidableEq, Repr

/-- State of the store allocator (07). `levels` is none until a Store Table is applied (R146). -/
structure Allocator where
  level    : Nat
  levels   : Option StoreLevels
  band     : Four Band
  ready    : Four Bool
  lowArmed : Bool
  deriving DecidableEq, Repr

/-! ### Record unit -/

/-- A section entry of a record (08 section 8.1); `sec` is the section's index, its number less 1. -/
structure Entry where
  sec         : Fin 4
  worst       : EntryOutcome
  firstOffset : Option Nat
  minLoad     : Option Nat
  energy      : Int
  deriving DecidableEq, Repr

/-- A sag record (08 section 8.1). -/
structure Record where
  seq             : Word
  isOpen          : Bool
  startFrame      : BitVec 32
  trigger         : Trigger
  involved        : Phases Bool
  sagDuration     : Option Nat
  episodeDuration : Option (BitVec 32)
  minSupply       : Phases (Option Nat)
  phaseJump       : Option Int
  fStart          : Nat
  fLowest         : Nat
  forced          : Bool
  endCause        : Option EndCause
  entries         : List Entry
  deriving DecidableEq, Repr

/-- State of the record unit (R147); the list is ordered from oldest to newest. -/
structure Records where
  list    : List Record
  nextSeq : Word
  deriving DecidableEq, Repr

/-! ### Table loader -/

/-- The load state, with its target and opened word count while there are any (R158). -/
inductive Load where
  | idle
  | opened (target : TableId) (words : Nat)
  | pending (target : TableId) (words : Nat)
  deriving DecidableEq, Repr

/-- The sticky load flags (R166). -/
structure Sticky where
  lockedTarget : Bool
  sequence     : Bool
  content      : Bool
  cross        : Bool
  deriving DecidableEq, Repr

/-- State of the table loader (09). A table's image is none while the table is not valid. The staging
buffer lists the written words, indices strictly rising. -/
structure Loader where
  tables  : Tables (Option (List Word))
  locks   : Tables LockLevel
  load    : Load
  staging : List (Nat × Word)
  sticky  : Sticky
  deriving DecidableEq, Repr

/-! ### Management unit -/

/-- A request as its MANAGE frame carries it (11.2). -/
structure Request where
  code : Word
  arg1 : Word
  arg2 : Word
  arg3 : Word
  data : List Word
  deriving DecidableEq, Repr

/-- What an answer part carries after its header words: payload words fixed when the request was
taken, or one of the two parts that are read from the snapshot (R155). -/
inductive PartBody where
  | words (ws : List Word)
  | recordHeader
  | recordEntries
  deriving DecidableEq, Repr

/-- An answer part waiting in the queue (R173); `code` is the answered request's code. -/
structure AnswerPart where
  code   : Word
  result : ResultCode
  number : Nat
  parts  : Nat
  body   : PartBody
  deriving DecidableEq, Repr

/-- The two payload words of an alert (11.2). -/
structure Payload where
  first  : Word
  second : Word
  deriving DecidableEq, Repr

/-- State of the management unit (10). A set alert flag is held with its payload; a clear flag is none. -/
structure Management where
  slot     : Option Request
  queue    : List AnswerPart
  snapshot : Option Record
  alerts   : PerKind (Option Payload)
  mask     : PerKind Bool
  deriving DecidableEq, Repr

/-! ### The engine -/

/-- The state of the engine. `pending` is the queue of waiting commands, front first; `outPort` holds
the words of the frames that the latest command put on the Out port, in the order sent (log 1, 3). -/
structure State where
  pending    : List Instr
  resetLine  : Bool
  mntLine    : Bool
  outPort    : List (List Word)
  link       : Link
  front      : FrontEnd
  tracker    : Tracker
  detector   : Detector
  demand     : Four Demand
  controller : Controller
  injection  : Four Injection
  store      : Allocator
  records    : Records
  loader     : Loader
  management : Management
  deriving DecidableEq, Repr

/-- Why a step stops with a fault: never. The manual gives every command an effect in every state,
so this type has no constructor. -/
inductive Fault where
  deriving DecidableEq, Repr

/-- Why a step has no meaning. -/
inductive Refusal where
  /-- Raised by an arm of `exec` whose command has no meaning yet, named by its mnemonic. No arm of
  this model raises it. Safe: nothing can be proved of a run that stops. -/
  | notModelled (mnemonic : String)
  deriving DecidableEq, Repr

/-! ### Values after a power-on reset -/

/-- R5. -/
def Link.reset : Link := ⟨.unseen, 0, 0, none⟩

/-- R12. -/
def DriverStatus.reset : DriverStatus := ⟨.closed, false, false⟩

/-- R16. -/
def Window.empty : Window := ⟨[], 0⟩

/-- R18. -/
def FrontEnd.reset : FrontEnd :=
  { held := none
    status := Four.all DriverStatus.reset
    supplyWin := Phases.all Window.empty
    loadWin := Four.all (Phases.all Window.empty)
    gap := 0
    published := none }

/-- R34: no boundary, no crossing and no event. -/
def TrackerMarks.none : TrackerMarks := ⟨false, false, false, 0, false, false⟩

/-- R39. -/
def Tracker.reset : Tracker :=
  { live := 0, incLive := 384, lock := .unlocked, good := 0, bad := 0, quiet := 0
    held := 0, incHeld := 384, ref := .tracking, settle := 0, returnTimer := 0
    marks := TrackerMarks.none }

/-- R61. -/
def Detector.reset : Detector :=
  { state := .clear, fast := Phases.all 0, slow := Phases.all 0, recovery := 0, suspended := false
    trigger := none, involved := Phases.all false, elapsed := 0, endingElapsed := 0
    sagDuration := none, phaseJump := none, sagStart := false, sagEnd := false }

/-- R76. -/
def Demand.reset : Demand := ⟨0, false, 0⟩

/-- R110. -/
def Section.reset : Section :=
  { state := .out, service := .full, feedback := .closed, filterCount := 0
    confirm := .none, confirmTimer := 0, confirmFresh := false, confirmTimedOut := false
    closeSeen := false, faultCause := none, pendingReq := .none, eligible := false, hold := false
    overCount := 0, lastLeave := .none, lastArm := .none }

/-- R110. -/
def Controller.reset : Controller := ⟨.halted, false, Four.all Section.reset⟩

/-- R122. -/
def Injection.reset : Injection := ⟨Phases.all 0, 0, Phases.all .none, false, 0⟩

/-- R146. -/
def Allocator.reset : Allocator := ⟨0, none, Four.all .release, Four.all false, false⟩

/-- R157. -/
def Records.reset : Records := ⟨[], 0⟩

/-- R166. -/
def Sticky.clear : Sticky := ⟨false, false, false, false⟩

/-- R170. -/
def Loader.reset : Loader :=
  { tables := Tables.all none, locks := Tables.all .unlocked, load := .idle, staging := []
    sticky := Sticky.clear }

/-- R183. -/
def Management.reset : Management :=
  { slot := none, queue := [], snapshot := none, alerts := PerKind.all none, mask := PerKind.all true }

/-- The machine right after a power-on reset whose line is released (R5, R18, R39, R61, R76, R110,
R122, R146, R157, R170, R183). The MNT line not asserted and the empty queue are the model's choice
(log 6). -/
def State.reset : State :=
  { pending := [], resetLine := false, mntLine := false, outPort := []
    link := Link.reset, front := FrontEnd.reset, tracker := Tracker.reset
    detector := Detector.reset, demand := Four.all Demand.reset, controller := Controller.reset
    injection := Four.all Injection.reset, store := Allocator.reset, records := Records.reset
    loader := Loader.reset, management := Management.reset }

end Sys2Proof.Machine
end

