-- ==== Sys2Proof/Machine/Operands.lean ====
section
/-! DEFINITION. How operands are read: channels of a sample set, status bits of a driver word, fields of
the tables in use, arguments of a request (11.2, 11.3, R184, R186). -/

namespace Sys2Proof.Machine

/-! ### Channels (00 section 4.7) -/

/-- Offset of a phase within a run of three channels. -/
def Phase.offset : Phase → Nat
  | .A => 0
  | .B => 1
  | .C => 2

/-- The phase offset φ (00 section 4.4). -/
def Phase.phi : Phase → Nat
  | .A => 0
  | .B => 32768
  | .C => 16384

/-- The value of one channel of a set of 28. -/
def channel (values : List Int) (c : Nat) : Int := values.getD c 0

/-- Channel number of a supply voltage. -/
def supplyChannel (p : Phase) : Nat := p.offset

/-- Channel number of a load voltage: 3 + 6(k - 1) for phase A of section k. -/
def loadChannel (k : Fin 4) (p : Phase) : Nat := 3 + 6 * k.val + p.offset

/-- Channel number of a load current: 6 + 6(k - 1) for phase A of section k. -/
def currentChannel (k : Fin 4) (p : Phase) : Nat := 6 + 6 * k.val + p.offset

/-- Channel number of the DC store voltage. -/
def dcChannel : Nat := 27

/-- The status bits of section k in a driver status word: bits 4(k - 1) to 4(k - 1) + 2 (11.2). The
other bits are ignored (R186). -/
def driverStatus (word : Word) (k : Fin 4) : DriverStatus :=
  { position := if word.getLsbD (4 * k.val) then .opened else .closed
    bridgeFault := word.getLsbD (4 * k.val + 1)
    ready := word.getLsbD (4 * k.val + 2) }

/-! ### Tables in use (11.3) -/

/-- The image of a table in use, if the table is valid. -/
def State.image (s : State) (t : TableId) : Option (List Word) := s.loader.tables.get t

/-- Whether a table is valid (R170). -/
def State.valid (s : State) (t : TableId) : Bool := (s.image t).isSome

/-- Whether the engine is configured: all six tables are valid (00 section 4.9). -/
def State.configured (s : State) : Bool :=
  s.valid .calibration && s.valid .supply && s.valid .sections && s.valid .curves && s.valid .store
    && s.valid .reference

/-- Word `i` of an image as an unsigned value (R186). -/
def fieldOf (image : List Word) (i : Nat) : Nat := (image.getD i 0).toNat

/-- Word `i` of a table in use; a table that is not valid has no words, and reads as 0 (log 25). -/
def State.field (s : State) (t : TableId) (i : Nat) : Nat := fieldOf ((s.image t).getD []) i

/-- Gain of a channel: word 2c, or unit gain while the Calibration Table is not valid (R10). -/
def State.gain (s : State) (c : Nat) : Nat :=
  if s.valid .calibration then s.field .calibration (2 * c) else Config.unitGain

/-- Offset of a channel: word 2c + 1, signed, or 0 while the Calibration Table is not valid (R10). -/
def State.offset (s : State) (c : Nat) : Int :=
  match s.image .calibration with
  | some image => (image.getD (2 * c + 1) 0).toInt
  | none => 0

/-- fast_enable (03 section 3.1). -/
def State.fastEnable (s : State) : Bool := s.field .supply 0 == 1
/-- fast_dev_pm. -/
def State.fastDev (s : State) : Nat := s.field .supply 1
/-- fast_qualify. -/
def State.fastQualify (s : State) : Nat := s.field .supply 2
/-- slow_start_pm. -/
def State.slowStart (s : State) : Nat := s.field .supply 3
/-- slow_end_pm. -/
def State.slowEnd (s : State) : Nat := s.field .supply 4
/-- slow_qualify. -/
def State.slowQualify (s : State) : Nat := s.field .supply 5
/-- end_qualify. -/
def State.endQualify (s : State) : Nat := s.field .supply 6

/-- Field `j` of section k's entry: word 12(k - 1) + j of the Section Table (05 section 5.1). -/
def State.secField (s : State) (k : Fin 4) (j : Nat) : Nat := s.field .sections (12 * k.val + j)

/-- in_service. -/
def State.inService (s : State) (k : Fin 4) : Bool := s.secField k 0 == 1
/-- class, 0..3. -/
def State.classOf (s : State) (k : Fin 4) : Fin 4 := Fin.ofNat 4 (s.secField k 1)
/-- strategy: 0 RESTORE, 1 INPHASE. -/
def State.strategy (s : State) (k : Fin 4) : Strategy :=
  if s.secField k 2 == 0 then .restore else .inphase
/-- target_pm. -/
def State.target (s : State) (k : Fin 4) : Nat := s.secField k 3
/-- limit_pm. -/
def State.limit (s : State) (k : Fin 4) : Nat := s.secField k 4
/-- current_limit_pm. -/
def State.currentLimit (s : State) (k : Fin 4) : Nat := s.secField k 5
/-- curve. -/
def State.curveNumber (s : State) (k : Fin 4) : Nat := s.secField k 6
/-- floor_margin_pm. -/
def State.floorMargin (s : State) (k : Fin 4) : Nat := s.secField k 7
/-- open_timeout. -/
def State.openTimeout (s : State) (k : Fin 4) : Nat := s.secField k 8
/-- close_timeout. -/
def State.closeTimeout (s : State) (k : Fin 4) : Nat := s.secField k 9
/-- feedback_filter, or 3 while the Section Table is not valid (R85). -/
def State.filterLength (s : State) (k : Fin 4) : Nat :=
  if s.valid .sections then s.secField k 10 else Config.defaultFilter
/-- auto_rearm. -/
def State.autoRearm (s : State) (k : Fin 4) : Bool := s.secField k 11 == 1

/-- span (02 section 2.1). -/
def State.span (s : State) : Nat := s.field .reference 0
/-- lock_window. -/
def State.lockWindow (s : State) : Nat := s.field .reference 1
/-- lock_count. -/
def State.lockCount (s : State) : Nat := s.field .reference 2
/-- track_floor_pm. -/
def State.trackFloor (s : State) : Nat := s.field .reference 3
/-- settle_crossings. -/
def State.settleCrossings (s : State) : Nat := s.field .reference 4
/-- slew_rate. -/
def State.slewRate (s : State) : Nat := s.field .reference 5
/-- return_limit, in half-cycles. -/
def State.returnLimit (s : State) : Nat := s.field .reference 6
/-- The silence limit in force: silence_us, or 500 while the Reference Table is not valid (R6). -/
def State.silenceLimit (s : State) : Nat :=
  if s.valid .reference then s.field .reference 7 else Config.defaultSilence

/-! ### The Curve Table (R62) -/

/-- A tolerance curve: its final level and its steps (until, level_pm). -/
structure Curve where
  final : Nat
  steps : List (Nat × Nat)
  deriving DecidableEq, Repr

/-- Reads `n` steps of two items each, with the words left over (R62). -/
def readSteps : Nat → List Word → Option (List (Nat × Nat) × List Word)
  | 0, ws => some ([], ws)
  | n + 1, untl :: level :: ws =>
    match readSteps n ws with
    | some (steps, rest) => some ((untl.toNat, level.toNat) :: steps, rest)
    | none => none
  | _ + 1, _ => none

/-- Reads `n` curves, each a header of step_count and final_level_pm and then its steps (R62). -/
def readCurves : Nat → List Word → Option (List Curve × List Word)
  | 0, ws => some ([], ws)
  | n + 1, count :: final :: ws =>
    if 1 ≤ count.toNat ∧ count.toNat ≤ 8 then
      match readSteps count.toNat ws with
      | some (steps, rest) =>
        match readCurves n rest with
        | some (curves, left) => some (⟨final.toNat, steps⟩ :: curves, left)
        | none => none
      | none => none
    else none
  | _ + 1, _ => none

/-- The walk of R62: the curves of an image that fits, or none. -/
def walkCurves (image : List Word) : Option (List Curve) :=
  match image with
  | [] => none
  | count :: ws =>
    if 1 ≤ count.toNat ∧ count.toNat ≤ 8 then
      match readCurves count.toNat ws with
      | some (curves, []) => some curves
      | _ => none
    else none

/-- The curves of the Curve Table in use. -/
def State.curves (s : State) : List Curve :=
  ((s.image .curves).bind walkCurves).getD []

/-! ### Identifiers and arguments (R186) -/

/-- The table with an identifier, none outside 0..5. -/
def TableId.ofNat? : Nat → Option TableId
  | 0 => some .calibration
  | 1 => some .supply
  | 2 => some .sections
  | 3 => some .curves
  | 4 => some .store
  | 5 => some .reference
  | _ => none

/-- The identifier of a table. -/
def TableId.number : TableId → Nat
  | .calibration => 0
  | .supply => 1
  | .sections => 2
  | .curves => 3
  | .store => 4
  | .reference => 5

/-- The section that a section argument names, none outside 1..4 (R174, R186). -/
def sectionArg (w : Word) : Option (Fin 4) :=
  match w.toNat with
  | 1 => some 0
  | 2 => some 1
  | 3 => some 2
  | 4 => some 3
  | _ => none

end Sys2Proof.Machine
end

