-- ==== Sys2Proof/Machine/Flags.lean ====
section
/-! DEFINITION. Flags: alert flags with their payloads and mask (R179, R180), sticky load flags (R166). -/

namespace Sys2Proof.Machine

/-- The payload of a kind that carries none (11.2). -/
def noPayload : Payload := ⟨0, 0⟩

/-- A payload of one number. -/
def payload1 (n : Nat) : Payload := ⟨Word.ofNat n, 0⟩

/-- The eleven kinds in priority order (R179). -/
def alertKinds : List AlertKind :=
  [.linkSilent, .sectionFault, .sectionReleased, .storeLow, .sagStart, .sectionDegraded, .episodeEnd,
   .trackerUnlock, .measurementBreak, .commitDone, .requestOverrun]

/-- The urgent kinds 0..3 in priority order (R181). -/
def urgentKinds : List AlertKind := [.linkSilent, .sectionFault, .sectionReleased, .storeLow]

/-- The other kinds 4..10 in priority order (R181). -/
def otherKinds : List AlertKind :=
  [.sagStart, .sectionDegraded, .episodeEnd, .trackerUnlock, .measurementBreak, .commitDone,
   .requestOverrun]

/-- The priority number of a kind, which is its code (R179, 11.4). -/
def AlertKind.number : AlertKind → Nat
  | .linkSilent => 0
  | .sectionFault => 1
  | .sectionReleased => 2
  | .storeLow => 3
  | .sagStart => 4
  | .sectionDegraded => 5
  | .episodeEnd => 6
  | .trackerUnlock => 7
  | .measurementBreak => 8
  | .commitDone => 9
  | .requestOverrun => 10

/-- A raising: the flag is set, whatever the mask, with the payload of this raising (R179). -/
def Management.raised (m : Management) (k : AlertKind) (p : Payload) : Management :=
  { m with alerts := m.alerts.set k (some p) }

/-- The engine with an alert raised (R179). -/
def State.raise (s : State) (k : AlertKind) (p : Payload) : State :=
  { s with management := s.management.raised k p }

/-- The engine with alerts raised one after another. -/
def State.raiseAll (s : State) (as : List (AlertKind × Payload)) : State :=
  as.foldl (fun t a => t.raise a.1 a.2) s

/-- The first of some kinds that is set and enabled, with its payload (R181). -/
def Management.firstCandidate (m : Management) : List AlertKind → Option (AlertKind × Payload)
  | [] => none
  | k :: ks =>
    match m.mask.get k, m.alerts.get k with
    | true, some p => some (k, p)
    | _, _ => m.firstCandidate ks

/-- Whether an argument of SET_ALERT_MASK or CLEAR_ALERTS marks a position beyond kind 10 (R180, R186). -/
def marksBeyond (marks : Word) : Bool := 2048 ≤ marks.toNat

/-- The mask that consists exactly of the marks (R180). -/
def maskOf (marks : Word) : PerKind Bool := PerKind.build fun k => marks.getLsbD k.number

/-- The flags with every marked kind's flag and payload cleared (R180). -/
def clearMarked (marks : Word) (alerts : PerKind (Option Payload)) : PerKind (Option Payload) :=
  PerKind.build fun k => if marks.getLsbD k.number then none else alerts.get k

/-- Whether any sticky flag is set (R159). -/
def Sticky.any (f : Sticky) : Bool := f.lockedTarget || f.sequence || f.content || f.cross

/-- Sets LOCKED_TARGET (R166). -/
def State.setLockedTarget (s : State) : State :=
  { s with loader := { s.loader with sticky := { s.loader.sticky with lockedTarget := true } } }

/-- Sets SEQUENCE (R166). -/
def State.setSequence (s : State) : State :=
  { s with loader := { s.loader with sticky := { s.loader.sticky with sequence := true } } }

/-- Sets CONTENT (R166). -/
def State.setContent (s : State) : State :=
  { s with loader := { s.loader with sticky := { s.loader.sticky with content := true } } }

/-- Sets CROSS (R166). -/
def State.setCross (s : State) : State :=
  { s with loader := { s.loader with sticky := { s.loader.sticky with cross := true } } }

end Sys2Proof.Machine
end

