-- ==== Sys2Proof/Machine/FrontEnd.lean ====
section
/-! DEFINITION. The link interface's handling of a SAMPLE frame (R2 to R6) and the measurement front
end: calibration, gap filling, level windows and the published measurement set (R10 to R18). -/

namespace Sys2Proof.Machine

/-! ### Classification of a SAMPLE frame (R2, R3) -/

/-- How an accepted frame stands in the sequence: its kind of step, and its gap count. -/
structure StepClass where
  kind : StepKind
  gap  : Nat
  deriving DecidableEq, Repr

/-- The sequence step δ = (seq - last) mod 65536 (R3). -/
def sequenceStep (seq last : Word) : Nat := (seq - last).toNat

/-- The class of a frame that has passed R1; none for a duplicate, which is discarded (R2, R3). -/
def classify (l : Link) (seq : Word) : Option StepClass :=
  if l.meas = .running then
    let step := sequenceStep seq l.lastSeq
    if step = 0 then none
    else if step = 1 then some ⟨.normal, 0⟩
    else if step ≤ 4 then some ⟨.shortGap, step - 1⟩
    else some ⟨.brk, 0⟩
  else some ⟨.brk, 0⟩

/-- What an accepted frame adds to the frame counter: itself and its gap frames (R4). -/
def counterStep (c : StepClass) : Nat := c.gap + 1

/-- The gap seen of a break: (seq - last - 1) mod 65536 (R2, R3). -/
def gapSeen (seq last : Word) : Nat := (seq - last - 1).toNat

/-- The link interface's work on an accepted frame (R2 to R4, R6). -/
def linkWork (c : StepClass) (f : SampleFrame) (s : State) : State :=
  let t := if c.kind = .brk then
      s.raise .measurementBreak (payload1 (gapSeen f.seq s.link.lastSeq)) else s
  { t with link :=
      { meas := .running
        lastSeq := f.seq
        counter := s.link.counter + BitVec.ofNat 32 (counterStep c)
        timer := some s.silenceLimit } }

/-! ### Calibration (R11) -/

/-- A code corrected by offset and gain, rounded and saturated (R11). -/
def calibrate (code : Int) (offset : Int) (gain : Nat) : Int :=
  clampInt (-32767) 32767 (roundDiv ((code - offset) * gain) 16384)

/-- The 28 calibrated values of a frame, in channel order (R11). -/
def calibratedSet (s : State) (codes : List Word) : List Int :=
  (List.range Config.channelCount).map fun c =>
    calibrate (codes.getD c 0).toInt (s.offset c) (s.gain c)

/-! ### Level windows (R14 to R16) -/

/-- The square of a value, as it enters S. -/
def square (z : Int) : Nat := z.natAbs * z.natAbs

/-- A value enters a window (R14). -/
def Window.enter (w : Window) (z : Int) : Window :=
  if w.values.length < Config.windowSize then
    { values := w.values ++ [z], sumSq := w.sumSq + square z }
  else
    { values := w.values.tail ++ [z], sumSq := w.sumSq - square (w.values.headD 0) + square z }

/-- The level of a window, none when it is not valid (R15). A break leaves one value (R16), so a level is
valid again in the fifteenth frame after it, gap frames counted; R22, R58, R72, R115 and R121 say the
sixteenth (log 35). -/
def Window.level (w : Window) : Option Nat :=
  let n := w.values.length
  if Config.windowSize ≤ n then some (isqrt (w.sumSq / 32))
  else if Config.windowMin ≤ n then some (isqrt (2 * w.sumSq / n))
  else none

/-- The windows emptied together (R16). -/
def FrontEnd.emptied (fe : FrontEnd) : FrontEnd :=
  { fe with supplyWin := Phases.all Window.empty, loadWin := Four.all (Phases.all Window.empty) }

/-- One set of 28 values enters the fifteen windows (R14). -/
def FrontEnd.entered (fe : FrontEnd) (values : List Int) : FrontEnd :=
  { fe with
    supplyWin := Phases.build fun p => (fe.supplyWin.get p).enter (channel values (supplyChannel p))
    loadWin := Four.build fun k => Phases.build fun p =>
      ((fe.loadWin.get k).get p).enter (channel values (loadChannel k p)) }

/-- `g` gap frames, each a copy of the held set (R13). No set is held only before the first frame,
which is a break and has no gap (R16, log 24). -/
def FrontEnd.filled (fe : FrontEnd) : Nat → FrontEnd
  | 0 => fe
  | g + 1 =>
    match fe.held with
    | some values => (fe.entered values).filled g
    | none => fe

/-- The fifteen levels (R15). -/
def FrontEnd.levels (fe : FrontEnd) : Levels :=
  { supply := Phases.build fun p => (fe.supplyWin.get p).level
    load := Four.build fun k => Phases.build fun p => ((fe.loadWin.get k).get p).level }

/-- The windows after an accepted frame's values and its gap frames have entered (R13, R14, R16). -/
def FrontEnd.windowed (fe : FrontEnd) (c : StepClass) (values : List Int) : FrontEnd :=
  if c.kind = .brk then fe.emptied.entered values else (fe.filled c.gap).entered values

/-- The front end's work on an accepted frame, after the link interface's (R11 to R17). -/
def frontWork (c : StepClass) (f : SampleFrame) (s : State) : State :=
  let values := calibratedSet s f.codes
  let status := Four.build (driverStatus f.status)
  let fe := s.front.windowed c values
  { s with front :=
      { fe with
        held := some values
        status := status
        gap := c.gap
        published := some
          { frameNumber := s.link.counter, kind := c.kind, gap := c.gap, values := values
            status := status, levels := fe.levels } } }

/-! ### What the later blocks read -/

/-- The 28 values of the latest accepted frame. -/
def State.values (s : State) : List Int := s.front.held.getD []

/-- The calibrated supply value of a phase. -/
def State.supplyValue (s : State) (p : Phase) : Int := channel s.values (supplyChannel p)

/-- The calibrated load current of a section's phase. -/
def State.current (s : State) (k : Fin 4) (p : Phase) : Int := channel s.values (currentChannel k p)

/-- The calibrated DC store value V. -/
def State.dcValue (s : State) : Int := channel s.values dcChannel

/-- No level is valid. -/
def Levels.none : Levels := ⟨Phases.all .none, Four.all (Phases.all .none)⟩

/-- The published levels (R17). -/
def State.levels (s : State) : Levels :=
  match s.front.published with
  | some m => m.levels
  | none => Levels.none

/-- The frame number of the latest accepted frame (R4). -/
def State.frameNumber (s : State) : BitVec 32 := s.link.counter

/-- What a frame's work needs of the frame before it: the previous supply-A value (R22) and the
previous levels (R43, R44). -/
structure Previous where
  supplyA : Option Int
  levels  : Levels
  deriving DecidableEq, Repr

/-- The previous values, read before the frame's own replace them. -/
def State.previous (s : State) : Previous :=
  { supplyA := s.front.held.map fun values => channel values 0, levels := s.levels }

end Sys2Proof.Machine
end

