-- ==== Sys2Proof/Machine/Tracker.lean ====
section
/-! DEFINITION. The reference tracker (R20 to R39). -/

namespace Sys2Proof.Machine

/-- An increment kept within 384 - span..384 + span (R23, R36). -/
def clampInc (span : Nat) (x : Int) : Nat :=
  (clampInt ((Config.nominalAdvance : Int) - span) ((Config.nominalAdvance : Int) + span) x).toNat

/-- Whether a phase-A positive crossing is taken: the previous supply-A value below 0, this one 0 or
above, and a valid supply-A level at or above track_floor_pm (R22). -/
def crossingTaken (prev : Previous) (s : State) : Bool :=
  (match prev.supplyA with | some z => z < 0 | none => false)
    && 0 ≤ s.supplyValue .A
    && (match s.levels.supply.a with | some l => !levelBelow l s.trackFloor | none => false)

/-- The crossing error: the wrapped form of the advanced live angle (R23). -/
def crossingError (live : Nat) : Int := wrapped live

/-- A crossing with |e| ≤ lock_window is good (R24). -/
def crossingIsGood (lockWindow : Nat) (e : Int) : Bool := e.natAbs ≤ lockWindow

/-- The lock after a good crossing (R24). -/
def lockGood (lockCount : Nat) (t : Tracker) : Tracker :=
  match t.lock with
  | .unlocked => { t with lock := .locking, good := 1, bad := 0 }
  | .locking =>
    { t with lock := if lockCount ≤ t.good + 1 then .locked else .locking, good := t.good + 1, bad := 0 }
  | .locked => { t with good := min 8 (t.good + 1), bad := 0 }

/-- The lock after a bad crossing (R25). -/
def lockBad (t : Tracker) : Tracker :=
  if 2 ≤ t.bad + 1 then { t with lock := .unlocked, good := 0, bad := 0 }
  else { t with good := 0, bad := t.bad + 1 }

/-- The lock in a frame without a crossing (R26): the quiet count grows by g + 1 up to 256, and the
tracker unlocks in the frame in which it gets there. -/
def lockQuiet (gap : Nat) (t : Tracker) : Tracker :=
  let quiet := min Config.quietLimit (t.quiet + gap + 1)
  if t.quiet < Config.quietLimit ∧ quiet = Config.quietLimit then
    { t with lock := .unlocked, good := 0, bad := 0, quiet := quiet }
  else { t with quiet := quiet }

/-- The correction of a crossing with error e (R23), then the lock (R24, R25) and the quiet count (R26). -/
def takeCrossing (span lockWindow lockCount : Nat) (t : Tracker) : Tracker :=
  let e := crossingError t.live
  let u := { t with
    live := angle ((t.live : Int) - truncDiv e 4)
    incLive := clampInc span ((t.incLive : Int) - truncDiv e 64)
    quiet := 0 }
  if crossingIsGood lockWindow e then lockGood lockCount u else lockBad u

/-- The signed difference Δ that the slew closes: the wrapped form of live - held (R31). -/
def slewDelta (live held : Nat) : Int := wrapped (angle ((live : Int) - held))

/-- The signed move of the slew step (R31): all of Δ when |Δ| ≤ slew_rate, else slew_rate in Δ's
direction. -/
def slewStep (rate : Nat) (delta : Int) : Int :=
  if delta.natAbs ≤ rate then delta else if delta < 0 then -(rate : Int) else rate

/-- The live angle's part of the first part of a frame: advance (R21), crossing (R22 to R25) or quiet
frames (R26). -/
def trackLive (taken : Bool) (gap : Nat) (s : State) (t : Tracker) : Tracker :=
  let u := { t with live := angle ((t.live : Int) + ((gap + 1) * t.incLive : Nat)) }
  if taken then takeCrossing s.span s.lockWindow s.lockCount u else lockQuiet gap u

/-- The held angle's advance while HELD or SLEWING (R29). -/
def advanceHeld (gap : Nat) (t : Tracker) : Tracker :=
  if t.ref = .tracking then t else { t with held := angle ((t.held : Int) + ((gap + 1) * t.incHeld : Nat)) }

/-- The slew step with its settle count and return timer (R31). The timer stays within its range
(log 16). -/
def slewed (taken : Bool) (gap : Nat) (rate : Nat) (t : Tracker) : Tracker :=
  { t with
    held := angle ((t.held : Int) + slewStep rate (slewDelta t.live t.held))
    settle := if taken then min 16 (t.settle + 1) else t.settle
    returnTimer := min Config.returnTimerMax (t.returnTimer + gap + 1) }

/-- Whether the reference changes to TRACKING by R32, after the slew step of a frame with difference
`delta`. -/
def settled (s : State) (delta : Int) (t : Tracker) : Bool :=
  delta.natAbs ≤ s.slewRate && t.lock == .locked && s.settleCrossings ≤ t.settle

/-- Whether the return limit forces the change (R33). -/
def returnDue (s : State) (t : Tracker) : Bool := s.returnLimit * 64 ≤ t.returnTimer

/-- Whether a frame is a reference cycle boundary (R35), from the tracker as it stood at the start of
the frame and the slew step made in it. -/
def boundaryIn (gap : Nat) (t : Tracker) (move : Int) : Bool :=
  match t.ref with
  | .tracking => Config.cycle ≤ t.live + (gap + 1) * t.incLive
  | .held => Config.cycle ≤ t.held + (gap + 1) * t.incHeld
  | .slewing => (Config.cycle : Int) ≤ (t.held : Int) + ((gap + 1) * t.incHeld : Nat) + move

/-- The tracker after the first part of its work on a frame (R20). -/
def trackFirst (prev : Previous) (gap : Nat) (s : State) (t : Tracker) : Tracker :=
  let taken := crossingTaken prev s
  let good := taken && crossingIsGood s.lockWindow
    (crossingError (angle ((t.live : Int) + ((gap + 1) * t.incLive : Nat))))
  let u := advanceHeld gap (trackLive taken gap s t)
  let delta := slewDelta u.live u.held
  let move := slewStep s.slewRate delta
  let marks : TrackerMarks :=
    { boundary := boundaryIn gap t move, crossing := taken, crossingGood := good
      heldAdvanced := u.held, becameTracking := false, forcedReturn := false }
  if t.ref = .slewing then
    let v := slewed taken gap s.slewRate u
    if settled s delta v then
      { v with ref := .tracking, marks := { marks with becameTracking := true } }
    else if returnDue s v then
      { v with ref := .tracking, marks := { marks with becameTracking := true, forcedReturn := true } }
    else { v with marks := marks }
  else { u with marks := marks }

/-- A change of the lock state from LOCKING or LOCKED to UNLOCKED raises TRACKER_UNLOCK (R27). -/
def unlockAlert (before after : LockState) (s : State) : State :=
  if before ≠ .unlocked ∧ after = .unlocked then s.raise .trackerUnlock noPayload else s

/-- First part of the tracker's work on a frame; none while the engine is not configured (R20). -/
def trackerFirst (prev : Previous) (gap : Nat) (s : State) : State :=
  if s.configured then
    let t := trackFirst prev gap s s.tracker
    unlockAlert s.tracker.lock t.lock { s with tracker := t }
  else s

/-- Capture at a sag start (R28). -/
def captureHeld (t : Tracker) : Tracker :=
  match t.ref with
  | .tracking => { t with held := t.live, incHeld := t.incLive, ref := .held }
  | .slewing => { t with ref := .held, settle := 0, returnTimer := 0 }
  | .held => t

/-- The reference starts slewing at a sag end (R30). -/
def startSlew (t : Tracker) : Tracker :=
  if t.ref = .held then { t with ref := .slewing, settle := 0, returnTimer := 0 } else t

/-- Second part of the tracker's work on a frame: it acts on the detector's result (R20, R28, R30). -/
def trackerSecond (s : State) : State :=
  if s.configured then
    if s.detector.sagStart then { s with tracker := captureHeld s.tracker }
    else if s.detector.sagEnd then { s with tracker := startSlew s.tracker }
    else s
  else s

/-- The angle in force θ_ref (02). -/
def Tracker.refAngle (t : Tracker) : Nat := if t.ref = .tracking then t.live else t.held

/-- The tracker when a Reference Table with a given span is applied (R36). -/
def Tracker.retabled (span : Nat) (t : Tracker) : Tracker :=
  { t with
    incLive := clampInc span t.incLive
    incHeld := clampInc span t.incHeld
    lock := .locking, good := 0, bad := 0, quiet := 0 }

/-- The tracker after a silence expiry in RUNNING: unlocked, and TRACKING at once when it was HELD or
SLEWING; angles and increments are kept (R37). -/
def Tracker.silenced (t : Tracker) : Tracker :=
  let u := { t with lock := .unlocked, good := 0, bad := 0, quiet := 0 }
  if t.ref = .tracking then u else { u with ref := .tracking, settle := 0, returnTimer := 0 }

/-- The tracker after a restart (R39): angles and increments are kept. -/
def Tracker.restarted (t : Tracker) : Tracker :=
  { t with
    lock := .unlocked, good := 0, bad := 0, quiet := 0
    ref := .tracking, settle := 0, returnTimer := 0 }

end Sys2Proof.Machine
end

