-- ==== Sys2Proof/Machine/Detector.lean ====
section
/-! DEFINITION. The sag detector (R40 to R61). -/

namespace Sys2Proof.Machine

/-! ### Conditions of one phase in one frame -/

/-- The sample that the pre-sag waveform predicts (R44). -/
def expectedSample (prevLevel live : Nat) (p : Phase) : Int :=
  roundDiv (prevLevel * sine ((live + p.phi) % Config.cycle)) 8192

/-- Whether a sample is fast-low: its deviation from the prediction exceeds fast_dev_pm (R44). -/
def fastLow (devPm : Nat) (expected z : Int) : Bool :=
  devPm * Config.nominal < (expected - z).natAbs * 1000

/-- What the fast detector finds of a phase in a frame (R43, R44). -/
inductive FastVerdict where
  /-- fast_enable is 0 or the tracker is not LOCKED: the counter becomes 0. -/
  | off
  /-- Not `off`, and suspended or the previous level not valid: the counter keeps its value. -/
  | withheld
  /-- Evaluated. -/
  | judged (low : Bool)
  deriving DecidableEq, Repr

/-- The fast detector's verdict on a phase whose level is valid (R43, R44). R43 does not say which of its two
sentences holds when a frame meets both; that the counter becomes 0, and is not kept, when fast_enable is 0
or the tracker is not LOCKED is the model's choice (log 37). -/
def fastVerdict (prev : Previous) (suspended : Bool) (s : State) (p : Phase) : FastVerdict :=
  if !s.fastEnable || s.tracker.lock != .locked then .off
  else if suspended then .withheld
  else match prev.levels.supply.get p with
    | none => .withheld
    | some l => .judged (fastLow s.fastDev (expectedSample l s.tracker.live p) (s.supplyValue p))

/-- A fast counter after R47's update. -/
def fastCount (qualify : Nat) (v : FastVerdict) (n : Nat) : Nat :=
  match v with
  | .off => 0
  | .withheld => n
  | .judged true => min qualify (n + 1)
  | .judged false => 0

/-- A slow counter after R47's or R51's update. -/
def slowCount (qualify : Nat) (low : Bool) (n : Nat) : Nat := if low then min qualify (n + 1) else 0

/-- The three supply levels of the frame when they are valid; they are valid together (R42). -/
def validLevels (l : Levels) : Option (Phases Nat) :=
  match l.supply.a, l.supply.b, l.supply.c with
  | some a, some b, some c => some ⟨a, b, c⟩
  | _, _, _ => none

/-- The first phase in the order A, B, C with a mark. -/
def firstPhase (marks : Phases Bool) : Option Phase :=
  if marks.a then some .A else if marks.b then some .B else if marks.c then some .C else none

/-- Whether any phase has a mark. -/
def anyPhase (marks : Phases Bool) : Bool := marks.a || marks.b || marks.c

/-- Whether every phase has a mark. -/
def everyPhase (marks : Phases Bool) : Bool := marks.a && marks.b && marks.c

/-- The trigger of a sag start, by the phases that qualify on each counter: SLOW ranks first, then the
order A, B, C (R48). -/
def triggerOf (slowQ fastQ : Phases Bool) : Option Trigger :=
  match firstPhase slowQ, firstPhase fastQ with
  | some p, _ => some ⟨.slow, p⟩
  | none, some p => some ⟨.fast, p⟩
  | none, none => none

/-- The involved set at a sag start (R49): the slow-qualified phases, with the trigger phase of a FAST
trigger. -/
def involvedAtStart (slowQ : Phases Bool) (t : Trigger) : Phases Bool :=
  Phases.build fun p => slowQ.get p || (t.kind == .fast && t.phase == p)

/-! ### The detector's work on a frame (R41) -/

/-- Step 1: the elapsed frames advance in SAG and ENDING, saturating (R50). -/
def elapse (gap : Nat) (d : Detector) : Detector :=
  match d.state with
  | .sag | .ending => { d with elapsed := min Config.maxCount (d.elapsed + gap + 1) }
  | .clear | .suspect => d

/-- Step 2: a break sets the fast suspension, a good crossing clears it (R45). -/
def suspend (kind : StepKind) (goodCrossing : Bool) (d : Detector) : Detector :=
  if kind = .brk then { d with suspended := true }
  else if goodCrossing then { d with suspended := false } else d

/-- A frame in CLEAR or SUSPECT with the counters already updated: sag start, SUSPECT or CLEAR (R47 to
R49). -/
def qualify (slowQualify fastQualify : Nat) (d : Detector) : Detector :=
  let slowQ : Phases Bool := Phases.build fun p => decide (slowQualify ≤ d.slow.get p)
  let fastQ : Phases Bool := Phases.build fun p => decide (fastQualify ≤ d.fast.get p)
  match triggerOf slowQ fastQ with
  | some t =>
    { d with
      state := .sag, trigger := some t, involved := involvedAtStart slowQ t
      elapsed := 0, recovery := 0, fast := Phases.all 0, sagDuration := none, phaseJump := none
      sagStart := true }
  | none =>
    if anyPhase (Phases.build fun p => d.slow.get p != 0 || d.fast.get p != 0) then
      { d with state := .suspect }
    else { d with state := .clear }

/-- The sag end (R54). The sag duration is the elapsed frames at the first frame of the ENDING run
(log 9). -/
def endSag (d : Detector) : Detector :=
  { d with
    state := .clear, sagDuration := some d.endingElapsed
    slow := Phases.all 0, fast := Phases.all 0, recovery := 0, sagEnd := true }

/-- A recovered frame that raises the recovery count to `n`: ENDING, or the sag end at end_qualify
(R52 to R54). -/
def recover (endQualify n : Nat) (d : Detector) : Detector :=
  if endQualify ≤ n then endSag { d with recovery := n } else { d with state := .ending, recovery := n }

/-- Steps 3 and 4 on a frame with valid levels, by the state at the start of the frame (R42 to R54). A
phase whose slow counter reaches slow_qualify joins the involved set also in the frame that returns to
SAG (log 34). -/
def judge (prev : Previous) (s : State) (levels : Phases Nat) (d : Detector) : Detector :=
  let low : Phases Bool := Phases.build fun p => levelBelow (levels.get p) s.slowStart
  let recovered := everyPhase (Phases.build fun p => !levelBelow (levels.get p) s.slowEnd)
  let slow : Phases Nat := Phases.build fun p => slowCount s.slowQualify (low.get p) (d.slow.get p)
  match d.state with
  | .clear | .suspect =>
    let fast : Phases Nat := Phases.build fun p =>
      fastCount s.fastQualify (fastVerdict prev d.suspended s p) (d.fast.get p)
    qualify s.slowQualify s.fastQualify { d with slow := slow, fast := fast }
  | .sag =>
    let joined : Phases Bool := Phases.build fun p =>
      d.involved.get p || decide (s.slowQualify ≤ slow.get p)
    let e := { d with slow := slow, involved := joined }
    if recovered then recover s.endQualify 1 { e with endingElapsed := d.elapsed } else e
  | .ending =>
    if recovered then recover s.endQualify (d.recovery + 1) { d with slow := slow }
    else
      let joined : Phases Bool := Phases.build fun p =>
        d.involved.get p || decide (s.slowQualify ≤ slow.get p)
      { d with state := .sag, recovery := 0, slow := slow, involved := joined }

/-- Step 5: the phase jump, at a crossing in a frame that began in SAG or ENDING (R55). -/
def jump (before : DetState) (m : TrackerMarks) (d : Detector) : Detector :=
  match before, m.crossing with
  | .sag, true | .ending, true => { d with phaseJump := some (wrapped m.heldAdvanced) }
  | _, _ => d

/-- The detector after its work on a frame with the published set `m` (R41). -/
def detect (prev : Previous) (kind : StepKind) (gap : Nat) (s : State) (d : Detector) : Detector :=
  let d1 := suspend kind s.tracker.marks.crossingGood
    (elapse gap { d with sagStart := false, sagEnd := false })
  let d2 := match validLevels s.levels with
    | some levels => judge prev s levels d1
    | none => d1
  jump d.state s.tracker.marks d2

/-- The detector's work on a frame; none while the engine is not configured (R41). -/
def detectorWork (prev : Previous) (c : StepClass) (s : State) : State :=
  if s.configured then { s with detector := detect prev c.kind c.gap s s.detector } else s

/-- The elapsed half-cycles d_half (R50). -/
def Detector.dHalf (d : Detector) : Nat := d.elapsed / 64

/-- Whether the detector state is SAG or ENDING. -/
def Detector.inSag (d : Detector) : Bool := d.state == .sag || d.state == .ending

/-- The number of involved phases, which gives the sag type (03). -/
def involvedCount (i : Phases Bool) : Nat := i.a.toNat + i.b.toNat + i.c.toNat

/-- The detector when a Supply Threshold Table is applied (R59). -/
def Detector.retabled (d : Detector) : Detector :=
  { d with
    fast := Phases.all 0, slow := Phases.all 0, recovery := 0
    state := if d.state = .suspect then .clear else d.state }

/-- The detector sent to CLEAR by a silence expiry in RUNNING (R57). -/
def Detector.silenced (d : Detector) : Detector :=
  { d with state := .clear, fast := Phases.all 0, slow := Phases.all 0, recovery := 0 }

/-- The detector sent to CLEAR by a restart, which also clears the fast suspension (R60). -/
def Detector.restarted (d : Detector) : Detector :=
  { d with
    state := .clear, fast := Phases.all 0, slow := Phases.all 0, recovery := 0, suspended := false }

end Sys2Proof.Machine
end

