-- ==== Sys2Proof/Machine/Demand.lean ====
section
/-! DEFINITION. The demand evaluator (R67 to R76). -/

namespace Sys2Proof.Machine

/-- The required level of a curve at d_half: the level of the first step whose until lies above it, or
the final level (R68). -/
def requiredOn (final : Nat) (dHalf : Nat) : List (Nat × Nat) → Nat
  | [] => final
  | (untl, level) :: rest => if dHalf < untl then level else requiredOn final dHalf rest

/-- The required level R of a section in the frame (R68). -/
def State.requiredLevel (s : State) (k : Fin 4) : Nat :=
  match s.curves[s.curveNumber k]? with
  | some c => requiredOn c.final s.detector.dHalf c.steps
  | none => 0

/-- Whether a phase is below R: its level is valid and L × 1000 < R × 8192 (R70, R72). -/
def phaseBelow (r : Nat) (level : Option Nat) : Bool :=
  match level with
  | some l => levelBelow l r
  | none => false

/-- The needed decision (R70). -/
def neededAt (inSag : Bool) (r : Nat) (levels : Phases (Option Nat)) : Bool :=
  inSag && anyPhase (Phases.build fun p => phaseBelow r (levels.get p))

/-- The floor target T_f (R74). -/
def floorTarget (r margin : Nat) : Nat := min (r + margin) 1000

/-- What the evaluator publishes for a section (R75). -/
def evaluate (s : State) (k : Fin 4) : Demand :=
  let r := s.requiredLevel k
  { required := r
    needed := neededAt s.detector.inSag r s.levels.supply
    floorTarget := floorTarget r (s.floorMargin k) }

/-- The demand evaluator's work on a frame; none while the engine is not configured (R67, R76). -/
def demandWork (s : State) : State :=
  if s.configured then { s with demand := Four.build (evaluate s) } else s

end Sys2Proof.Machine
end

