-- ==== Sys2Proof/Machine/Store.lean ====
section
/-! DEFINITION. The store allocator (R129 to R146). -/

namespace Sys2Proof.Machine

/-- degrade_pm of class c in a Store Table image (11.3). -/
def imageDegrade (image : List Word) (c : Fin 4) : Nat := fieldOf image (2 + c.val)

/-- release_pm of class c in a Store Table image (11.3). -/
def imageRelease (image : List Word) (c : Fin 4) : Nat := fieldOf image (6 + c.val)

/-- What the allocator derives from an applied Store Table: Vmin = floor(vmin_pm × 8192 / 1000) and
ready_c = min(release_c + hyst_pm, 1000), held with the class levels (R130). -/
def deriveLevels (image : List Word) : StoreLevels :=
  { vmin := fieldOf image 0 * Config.nominal / 1000
    degrade := Four.build (imageDegrade image)
    release := Four.build (imageRelease image)
    ready := Four.build fun c => min (imageRelease image c + fieldOf image 1) 1000 }

/-- The store level F of a DC value V under a floor voltage Vmin (R133). -/
def storeLevel (vmin : Nat) (v : Int) : Nat :=
  if v ≤ vmin then 0
  else min 1000 (1000 * (v.toNat * v.toNat - vmin * vmin)
    / (Config.nominal * Config.nominal - vmin * vmin))

/-- The band of a class with the given levels at store level F (R135). -/
def bandOf (degrade release f : Nat) : Band :=
  if f < release then .release else if f < degrade then .degrade else .serve

/-- The allocator's work on a DC value: F, bands, ready marks, and the STORE_LOW armed state (R132 to
R135, R138, R140, R141). -/
def allocate (l : StoreLevels) (v : Int) (a : Allocator) : Allocator :=
  let f := storeLevel l.vmin v
  { a with
    level := f
    band := Four.build fun c => bandOf (l.degrade.get c) (l.release.get c) f
    ready := Four.build fun c => decide (l.ready.get c ≤ f)
    lowArmed :=
      if l.ready.i0 ≤ f then true else if f < l.release.i0 then false else a.lowArmed }

/-- Whether a frame raises STORE_LOW: F < release_0 while STORE_LOW armed is set (R140). -/
def storeLowDue (l : StoreLevels) (v : Int) (a : Allocator) : Bool :=
  a.lowArmed && storeLevel l.vmin v < l.release.i0

/-- The allocator's work on a frame; none while the engine is not configured (R132). -/
def storeWork (s : State) : State :=
  match s.configured, s.store.levels with
  | true, some l =>
    let t := { s with store := allocate l s.dcValue s.store }
    if storeLowDue l s.dcValue s.store then t.raise .storeLow (payload1 t.store.level) else t
  | _, _ => s

/-- The order of the frame for a section, by the band of its class: release, degrade, or none when the
class is in SERVE (R136). -/
def State.orderOf (s : State) (k : Fin 4) : Band := s.store.band.get (s.classOf k)

end Sys2Proof.Machine
end

