-- ==== Sys2Proof/Machine/Sequencer.lean ====
section
/-! DEFINITION. One section: its feedback filter, its confirm, its overcurrent count, and the one
transition it makes in a frame (R82 to R99, R102, R103, R105, R106, R108). -/

namespace Sys2Proof.Machine

/-! ### Results -/

/-- A section after a transition, with the alerts it raises and the outcomes it hands the record unit. -/
structure Moved where
  sec      : Section
  alerts   : List (AlertKind × Payload)
  outcomes : List EntryOutcome
  deriving DecidableEq, Repr

/-- A section that raises nothing and hands nothing. -/
def Moved.quiet (x : Section) : Moved := ⟨x, [], []⟩

/-- The code of a cause (11.4). -/
def Cause.code : Cause → Nat
  | .none => 0
  | .store => 1
  | .notReady => 2
  | .halt => 3
  | .request => 4
  | .overcurrent => 5
  | .linkSilent => 6
  | .restart => 7
  | .table => 8
  | .bridge => 9
  | .openStuck => 10
  | .closeStuck => 11
  | .openUncommanded => 12
  | .closeUncommanded => 13

/-- The number 1..4 of the section at an index. -/
def sectionNumber (k : Fin 4) : Nat := k.val + 1

/-- A section's alert with a cause (R179). -/
def causeAlert (kind : AlertKind) (k : Fin 4) (c : Cause) : AlertKind × Payload :=
  (kind, ⟨Word.ofNat (sectionNumber k), Word.ofNat c.code⟩)

/-- SECTION_DEGRADED of a section (R179). -/
def degradedAlert (k : Fin 4) : AlertKind × Payload :=
  (.sectionDegraded, payload1 (sectionNumber k))

/-! ### Commands of a state (R82) -/

/-- Whether a state commands the bypass OPEN: only INJECTING and RETURNING/SLEWING (R82). -/
def SecState.commandsOpen : SecState → Bool
  | .injecting | .returningSlewing => true
  | .out | .bypassed | .armed | .watching | .returningClosing | .releasing | .fault => false

/-- The bypass command (R82). -/
def Section.bypass (x : Section) : Position := if x.state.commandsOpen then .opened else .closed

/-- The bridge command, given the section's bridge-fault bit of the frame (R82). -/
def Section.bridge (bridgeFault : Bool) (x : Section) : Bridge :=
  match x.state with
  | .out | .bypassed | .armed | .watching => .blocked
  | .injecting | .returningSlewing | .returningClosing | .releasing => .active
  | .fault => if x.closeSeen || bridgeFault then .blocked else .active

/-! ### Confirms (R86) -/

/-- A confirm begun within a frame: this frame is its first commanding frame. -/
def Section.beginConfirm (c : Confirm) (x : Section) : Section :=
  { x with confirm := c, confirmTimer := 0, confirmFresh := false, confirmTimedOut := false }

/-- A confirm begun by a request between frames: its timer starts in the next accepted frame. -/
def Section.beginConfirmByRequest (c : Confirm) (x : Section) : Section :=
  { x with confirm := c, confirmTimer := 0, confirmFresh := true, confirmTimedOut := false }

/-- A confirm ended (its timer then reads 0, log 11). -/
def Section.endConfirm (x : Section) : Section :=
  { x with confirm := .none, confirmTimer := 0, confirmFresh := false, confirmTimedOut := false }

/-- A CLOSE confirm continues when it is in progress; otherwise one begins in this frame. -/
def Section.closeInFrame (x : Section) : Section :=
  if x.confirm = .closing then x else x.beginConfirm .closing

/-- A CLOSE confirm continues when it is in progress; otherwise one begins by request. -/
def Section.closeByRequest (x : Section) : Section :=
  if x.confirm = .closing then x else x.beginConfirmByRequest .closing

/-! ### Updates before the decision (R83) -/

/-- The feedback filter on a report (R85). -/
def Section.filtered (len : Nat) (report : Position) (x : Section) : Section :=
  if report = x.feedback then { x with filterCount := 0 }
  else if len ≤ x.filterCount + 1 then { x with feedback := report, filterCount := 0 }
  else { x with filterCount := x.filterCount + 1 }

/-- The confirm timer of a frame (R86): 0 in the first commanding frame, then g + 1 more up to 64. -/
def Section.timed (gap : Nat) (x : Section) : Section :=
  if x.confirm = .none then x
  else if x.confirmFresh then { x with confirmTimer := 0, confirmFresh := false }
  else { x with confirmTimer := min 64 (x.confirmTimer + gap + 1) }

/-- Whether a state is INJECTING or RETURNING, in which the load currents are judged (R99). -/
def SecState.carrying : SecState → Bool
  | .injecting | .returningSlewing | .returningClosing => true
  | .out | .bypassed | .armed | .watching | .releasing | .fault => false

/-- The overcurrent count of a frame (R99). -/
def Section.counted (isOver : Bool) (x : Section) : Section :=
  { x with overCount := if x.state.carrying && isOver then x.overCount + 1 else 0 }

/-! ### What a section reads in a frame -/

/-- What the controller reads of a frame for one section (R83, R101). -/
structure SectionView where
  gap            : Nat
  status         : DriverStatus
  isOver         : Bool
  filterLen      : Nat
  openTimeout    : Nat
  closeTimeout   : Nat
  inService      : Bool
  autoRearm      : Bool
  strategy       : Strategy
  inSag          : Bool
  sagStart       : Bool
  sagEnd         : Bool
  becameTracking : Bool
  boundary       : Bool
  order          : Band
  needed         : Bool
  /-- The arming conditions of R101 other than the section's accepted feedback. -/
  mayArm         : Bool
  deriving DecidableEq, Repr

/-! ### Transitions -/

/-- The pending request of a section that leaves BYPASSED or ARMED is cleared, a pending ARM with last
arm outcome DISCARDED_CONDITIONS (R80, R102, R103). -/
def Section.dropPending (x : Section) : Section :=
  { x with
    pendingReq := .none
    lastArm := if x.pendingReq = .arm then .discardedConditions else x.lastArm }

/-- Entry to FAULT (R86, R87, R88, R89, R97, R98, R105, R108). The last leave cause becomes the fault
cause (log 14). -/
def enterFault (k : Fin 4) (c : Cause) (x : Section) : Moved :=
  { sec := { x.dropPending.closeInFrame with
      state := .fault, faultCause := some c, closeSeen := false, eligible := false, overCount := 0
      lastLeave := c }
    alerts := [causeAlert .sectionFault k c]
    outcomes := [.fault] }

/-- To BYPASSED with a leave cause, within a frame (R90, R92, R98, R103). -/
def leaveToBypassed (k : Fin 4) (c : Cause) (eligible : Bool) (outcome : EntryOutcome) (x : Section) :
    Moved :=
  { sec := { x.dropPending with
      state := .bypassed, lastLeave := c, eligible := eligible, overCount := 0 }
    alerts := [causeAlert .sectionReleased k c]
    outcomes := [outcome] }

/-- To RELEASING with a leave cause, within a frame (R91, R93, R99). -/
def leaveToReleasing (k : Fin 4) (c : Cause) (eligible : Bool) (outcome : EntryOutcome) (x : Section) :
    Moved :=
  { sec := { x.closeInFrame with
      state := .releasing, lastLeave := c, eligible := eligible, overCount := 0 }
    alerts := [causeAlert .sectionReleased k c]
    outcomes := [outcome] }

/-- The service level at entry to INJECTING: FULL when F ≥ degrade_c and the section's service level is
FULL, DEGRADED otherwise (R90). -/
def entryService (order : Band) (x : Section) : Service :=
  if order = .serve ∧ x.service = .full then .full else .degraded

/-- To INJECTING at the service level of R90; SECTION_DEGRADED is raised when it is DEGRADED (R90,
R91, R92, log 12). -/
def enterInjecting (k : Fin 4) (order : Band) (x : Section) : Moved :=
  match entryService order x with
  | .full => { sec := { x with state := .injecting, service := .full }, alerts := [], outcomes := [.full] }
  | .degraded =>
    { sec := { x with state := .injecting, service := .degraded }
      alerts := [degradedAlert k], outcomes := [.degraded] }

/-- To ARMED at a boundary (R102, R106). -/
def Section.armedNow (x : Section) : Section :=
  { x with state := .armed, pendingReq := .none, eligible := false, lastArm := .applied }

/-- To RETURNING/CLOSING, with a new CLOSE confirm (R95, R96). -/
def Section.startClosing (x : Section) : Section :=
  { x.beginConfirm .closing with state := .returningClosing }

/-! ### The decision by state (R84) -/

/-- Entry 7 on a BYPASSED section at a reference cycle boundary: a pending ARM (R102), else automatic
re-arm (R106). -/
def atBoundary (v : SectionView) (x : Section) : Section :=
  let conditions := v.mayArm && x.feedback == .closed
  if x.pendingReq = .arm then
    if conditions then x.armedNow
    else { x with pendingReq := .none, lastArm := .discardedConditions }
  else if x.eligible && v.autoRearm && !x.hold && conditions then x.armedNow
  else x

/-- A BYPASSED section without a bridge fault: a sag start discards a pending ARM (R90), else entry 7. -/
def decideBypassed (v : SectionView) (x : Section) : Moved :=
  if v.sagStart && x.pendingReq == .arm then
    Moved.quiet { x with pendingReq := .none, lastArm := .discardedSag }
  else if v.boundary then Moved.quiet (atBoundary v x)
  else Moved.quiet x

/-- An ARMED section at a sag start (R90). -/
def armedAtSagStart (k : Fin 4) (v : SectionView) (x : Section) : Moved :=
  if x.pendingReq = .disarm then leaveToBypassed k .request x.eligible .notArmed x
  else if v.order = .release then leaveToBypassed k .store true .releasedStore x
  else if v.needed then enterInjecting k v.order (x.beginConfirm .opening)
  else { sec := { x with state := .watching }, alerts := [], outcomes := [.watched] }

/-- An ARMED section; `turnedOpen`: its accepted feedback became OPEN in the frame. -/
def decideArmed (k : Fin 4) (v : SectionView) (turnedOpen : Bool) (x : Section) : Moved :=
  if !v.status.ready then leaveToBypassed k .notReady x.eligible .fault x
  else if turnedOpen then enterFault k .openUncommanded x
  else if v.sagStart then armedAtSagStart k v x
  else if v.boundary && x.pendingReq == .disarm then
    leaveToBypassed k .request x.eligible .releasedRequest x
  else Moved.quiet x

/-- A WATCHING section. -/
def decideWatching (k : Fin 4) (v : SectionView) (turnedOpen : Bool) (x : Section) : Moved :=
  if !v.status.ready then leaveToBypassed k .notReady x.eligible .fault x
  else if turnedOpen then enterFault k .openUncommanded x
  else if v.sagEnd then Moved.quiet { x with state := .armed, eligible := false }
  else if v.inSag && !v.sagStart then
    if v.order = .release then leaveToBypassed k .store true .releasedStore x
    else if v.needed then enterInjecting k v.order (x.beginConfirm .opening)
    else Moved.quiet x
  else Moved.quiet x

/-- An INJECTING section at the sag end (R95). -/
def injectingAtSagEnd (v : SectionView) (x : Section) : Section :=
  match v.strategy, x.service with
  | .restore, .full => { x with state := .returningSlewing }
  | _, _ => x.startClosing

/-- An INJECTING section under the store orders of a SAG or ENDING frame (R93). -/
def injectingUnderOrders (k : Fin 4) (v : SectionView) (x : Section) : Moved :=
  match v.order, x.service with
  | .release, _ => leaveToReleasing k .store true .releasedStore x
  | .degrade, .full =>
    { sec := { x with service := .degraded }, alerts := [degradedAlert k], outcomes := [.degraded] }
  | _, _ => Moved.quiet x

/-- Entries 2 to 4 of R84 for a section with its bypass commanded open: not ready, a timed-out open,
an uncommanded close, overcurrent. None when none of them applies. -/
def openHazard (k : Fin 4) (v : SectionView) (openTimesOut turnedClosed : Bool) (x : Section) :
    Option Moved :=
  if !v.status.ready then some (enterFault k .notReady x)
  else if openTimesOut then some (enterFault k .openStuck x)
  else if turnedClosed && x.confirm != .opening then some (enterFault k .closeUncommanded x)
  else if 2 ≤ x.overCount then some (leaveToReleasing k .overcurrent false .overcurrent x)
  else none

/-- An INJECTING section. -/
def decideInjecting (k : Fin 4) (v : SectionView) (openTimesOut turnedClosed : Bool) (x : Section) :
    Moved :=
  match openHazard k v openTimesOut turnedClosed x with
  | some m => m
  | none =>
    if v.sagEnd then Moved.quiet (injectingAtSagEnd v x)
    else if v.inSag then injectingUnderOrders k v x
    else Moved.quiet x

/-- A RETURNING/SLEWING section at a sag start (R91): the bypass stays open, so the confirm in progress
ends and none begins. -/
def slewingAtSagStart (k : Fin 4) (v : SectionView) (x : Section) : Moved :=
  if v.order = .release then leaveToReleasing k .store true .releasedStore x
  else enterInjecting k v.order x.endConfirm

/-- A RETURNING/SLEWING section; the sag start comes before the reference becoming TRACKING (R91, R96). -/
def decideSlewing (k : Fin 4) (v : SectionView) (openTimesOut turnedClosed : Bool) (x : Section) :
    Moved :=
  match openHazard k v openTimesOut turnedClosed x with
  | some m => m
  | none =>
    if v.sagStart then slewingAtSagStart k v x
    else if v.becameTracking then Moved.quiet x.startClosing
    else Moved.quiet x

/-- The close of a RETURNING/CLOSING section succeeds: ARMED, and in a SAG or ENDING frame WATCHING in
the same frame (R88, R103, R105). -/
def closedToArmed (v : SectionView) (x : Section) : Moved :=
  let y := { x.endConfirm with eligible := false, overCount := 0 }
  if v.inSag then
    { sec := { y.dropPending with state := .watching }, alerts := [], outcomes := [.watched] }
  else Moved.quiet { y with state := .armed }

/-- A close that times out: FAULT with CLOSE_STUCK, the confirm watched on without a limit (R88). -/
def closeStuckFault (k : Fin 4) (x : Section) : Moved :=
  enterFault k .closeStuck { x with confirmTimedOut := true }

/-- A RETURNING/CLOSING section. -/
def decideClosing (k : Fin 4) (v : SectionView) (closeTimesOut closeOk : Bool) (x : Section) : Moved :=
  if !v.status.ready then enterFault k .notReady x
  else if closeTimesOut then closeStuckFault k x
  else if 2 ≤ x.overCount then leaveToReleasing k .overcurrent false .overcurrent x
  else if closeOk then closedToArmed v x
  else Moved.quiet x

/-- A RELEASING section. -/
def decideReleasing (k : Fin 4) (closeTimesOut closeOk : Bool) (x : Section) : Moved :=
  if closeTimesOut then closeStuckFault k x
  else if closeOk then Moved.quiet { x.endConfirm with state := .bypassed }
  else Moved.quiet x

/-- A FAULT section (R88): a timed-out close replaces the fault cause (log 13), a close that succeeds
is seen, and a feedback that becomes OPEN after that begins a new close. -/
def decideFault (k : Fin 4) (turnedOpen closeTimesOut closeOk : Bool) (x : Section) : Moved :=
  if closeTimesOut then
    { sec := { x with faultCause := some .closeStuck, confirmTimedOut := true }
      alerts := [causeAlert .sectionFault k .closeStuck], outcomes := [] }
  else if closeOk then Moved.quiet { x.endConfirm with closeSeen := true }
  else if x.closeSeen && turnedOpen then
    Moved.quiet { x.beginConfirm .closing with closeSeen := false }
  else Moved.quiet x

/-! ### The whole frame of a section (R83, R84) -/

/-- What the updates of a frame find of a section's confirm and feedback. -/
structure ConfirmNews where
  openOk        : Bool
  closeOk       : Bool
  openTimesOut  : Bool
  closeTimesOut : Bool
  turnedOpen    : Bool
  turnedClosed  : Bool
  deriving DecidableEq, Repr

/-- The section after the updates that precede the decision: filter, confirm timer, overcurrent count
(R83). -/
def Section.updated (v : SectionView) (x : Section) : Section :=
  ((x.filtered v.filterLen v.status.position).timed v.gap).counted v.isOver

/-- The news of a frame for a section `x` at its start and `y` after the updates. A confirm is judged
in the frames after its first commanding frame (R87, R88). -/
def confirmNews (v : SectionView) (x y : Section) : ConfirmNews :=
  let judged := x.confirm != .none && !x.confirmFresh
  let openOk := judged && x.confirm == .opening && y.feedback == .opened && y.filterCount == 0
  let closeOk := judged && x.confirm == .closing && y.feedback == .closed && y.filterCount == 0
  { openOk := openOk
    closeOk := closeOk
    openTimesOut := judged && x.confirm == .opening && !openOk && decide (v.openTimeout ≤ y.confirmTimer)
    closeTimesOut := judged && x.confirm == .closing && !closeOk && !x.confirmTimedOut
      && decide (v.closeTimeout ≤ y.confirmTimer)
    turnedOpen := x.feedback == .closed && y.feedback == .opened
    turnedClosed := x.feedback == .opened && y.feedback == .closed }

/-- Whether entry 1 of R84 applies: the bridge-fault bit in any state but OUT and FAULT (R97). -/
def bridgeFaultDue (v : SectionView) (x : Section) : Bool :=
  v.status.bridgeFault && x.state != .out && x.state != .fault

/-- The decision of R84 on an updated section: entry 1, then the rest by the state it holds. -/
def decideByState (k : Fin 4) (v : SectionView) (n : ConfirmNews) (x : Section) : Moved :=
  if bridgeFaultDue v x then enterFault k .bridge x
  else match x.state with
    | .out => Moved.quiet x
    | .bypassed => decideBypassed v x
    | .armed => decideArmed k v n.turnedOpen x
    | .watching => decideWatching k v n.turnedOpen x
    | .injecting => decideInjecting k v n.openTimesOut n.turnedClosed x
    | .returningSlewing => decideSlewing k v n.openTimesOut n.turnedClosed x
    | .returningClosing => decideClosing k v n.closeTimesOut n.closeOk x
    | .releasing => decideReleasing k n.closeTimesOut n.closeOk x
    | .fault => decideFault k n.turnedOpen n.closeTimesOut n.closeOk x

/-- The outcome NOT_ARMED of a section in service that a sag start finds neither ARMED nor
RETURNING/SLEWING (R108). -/
def notArmedOutcome (v : SectionView) (x : Section) : List EntryOutcome :=
  if v.sagStart && v.inService && x.state != .armed && x.state != .returningSlewing then [.notArmed]
  else []

/-- A section's frame: updates, the end of a confirmed open (R87), and the decision. -/
def sectionFrame (k : Fin 4) (v : SectionView) (x : Section) : Moved :=
  let y := x.updated v
  let n := confirmNews v x y
  let m := decideByState k v n (if n.openOk then y.endConfirm else y)
  { m with outcomes := notArmedOutcome v x ++ m.outcomes }

end Sys2Proof.Machine
end

