-- ==== Sys2Proof/Machine/Controller.lean ====
section
/-! DEFINITION. The section controller on a frame: what each section reads, the episode-in-progress
signal, and what the controller hands on (R83, R84, R101, R107, R108). -/

namespace Sys2Proof.Machine

/-- Whether a section is over its current limit in the frame: |i| × 1000 > current_limit_pm × 8192 for
some phase (R99). -/
def State.overLimit (s : State) (k : Fin 4) : Bool :=
  anyPhase (Phases.build fun p =>
    decide (s.currentLimit k * Config.nominal < (s.current k p).natAbs * 1000))

/-- The arming conditions of R101 other than the accepted feedback, from the state as it stands. The
ready mark is the comparison F ≥ ready_c of the latest frame (R138, log 18), for the class that the
Section Table in use names when the test is made (log 36). -/
def State.mayArm (s : State) (k : Fin 4) : Bool :=
  s.controller.run == .running && !s.controller.episode && s.tracker.lock == .locked
    && s.store.ready.get (s.classOf k) && (s.front.status.get k).ready

/-- The arming conditions of section k (R101). -/
def State.armingConditions (s : State) (k : Fin 4) : Bool :=
  s.mayArm k && (s.controller.sections.get k).feedback == .closed

/-- Whether the frame is a sag-start frame for the controller; the sag, store, demand and boundary
entries do not arise while the engine is not configured (R83, log 19). -/
def State.sagStarts (s : State) : Bool := s.configured && s.detector.sagStart

/-- What a section reads in a frame (R83). -/
def sectionView (s : State) (k : Fin 4) : SectionView :=
  { gap := s.front.gap
    status := s.front.status.get k
    isOver := s.overLimit k
    filterLen := s.filterLength k
    openTimeout := s.openTimeout k
    closeTimeout := s.closeTimeout k
    inService := s.inService k
    autoRearm := s.autoRearm k
    strategy := s.strategy k
    inSag := s.configured && s.detector.inSag
    sagStart := s.sagStarts
    sagEnd := s.configured && s.detector.sagEnd
    becameTracking := s.configured && s.tracker.marks.becameTracking
    boundary := s.configured && s.tracker.marks.boundary
    order := s.orderOf k
    needed := s.configured && (s.demand.get k).needed
    mayArm := s.configured && s.mayArm k }

/-- The episode signal raised in a sag-start frame, kept otherwise (R107). -/
def raiseEpisode (s : State) : State :=
  { s with controller := { s.controller with episode := s.controller.episode || s.sagStarts } }

/-- The states that hold an episode: WATCHING, INJECTING, RETURNING and RELEASING (R107). -/
def SecState.holdsEpisode : SecState → Bool
  | .watching | .injecting | .returningSlewing | .returningClosing | .releasing => true
  | .out | .bypassed | .armed | .fault => false

/-- Whether no section is WATCHING, INJECTING, RETURNING or RELEASING. -/
def noneHolds (secs : Four Section) : Bool :=
  !(secs.i0.state.holdsEpisode || secs.i1.state.holdsEpisode || secs.i2.state.holdsEpisode
    || secs.i3.state.holdsEpisode)

/-- Every section's service level becomes FULL when the signal is lowered (R94, R107). -/
def fullService (secs : Four Section) : Four Section := secs.map fun x => { x with service := .full }

/-- The lowering of the episode-in-progress signal (R107). -/
def Controller.lowered (c : Controller) : Controller :=
  { c with episode := false, sections := fullService c.sections }

/-- Whether the signal is lowered at the end of the controller's work on a frame (R107). -/
def episodeEnds (s : State) : Bool :=
  s.controller.episode && s.detector.state == .clear && noneHolds s.controller.sections

/-- The controller's work on a frame: the engine after it, the outcomes handed to the record unit, and
whether it hands on "episode ended" (R107, R108). -/
structure ControllerResult where
  state    : State
  outcomes : Four (List EntryOutcome)
  ended    : Bool
  deriving DecidableEq, Repr

/-- The four sections' frames, judged with the signal as the frame's sag start has left it (R101). -/
def sectionFrames (s : State) : Four Moved :=
  Four.build fun k => sectionFrame k (sectionView s k) (s.controller.sections.get k)

/-- The engine with the sections of a frame in place and their alerts raised in section order, so that
a payload is that of the highest-numbered section (R108). -/
def placeSections (m : Four Moved) (s : State) : State :=
  ({ s with controller := { s.controller with sections := m.map Moved.sec } }).raiseAll
    (m.i0.alerts ++ m.i1.alerts ++ m.i2.alerts ++ m.i3.alerts)

/-- The section controller's work on a frame (R83, R84, R107). -/
def controllerWork (s : State) : ControllerResult :=
  let s1 := raiseEpisode s
  let m := sectionFrames s1
  let s2 := placeSections m s1
  let ended := episodeEnds s2
  { state := if ended then { s2 with controller := s2.controller.lowered } else s2
    outcomes := m.map Moved.outcomes
    ended := ended }

/-! ### Events and requests that move every section -/

/-- Whether a silence expiry moves a section: ARMED, WATCHING, INJECTING, RETURNING or RELEASING (R7,
R100). -/
def SecState.active : SecState → Bool
  | .armed | .watching | .injecting | .returningSlewing | .returningClosing | .releasing => true
  | .out | .bypassed | .fault => false

/-- A section at a silence expiry in RUNNING (R100, R105). -/
def Section.silenced (x : Section) : Section :=
  if x.state.active then
    { x.endConfirm with
      state := .bypassed, lastLeave := .linkSilent
      eligible := if x.state = .releasing then x.eligible else true
      pendingReq := if x.pendingReq = .disarm then .none else x.pendingReq
      overCount := 0 }
  else x

/-- A section at HALT (R80). -/
def haltSection (k : Fin 4) (x : Section) : Moved :=
  let y := { x.dropPending with eligible := false }
  match x.state with
  | .injecting | .returningSlewing | .returningClosing =>
    { sec := { y.closeByRequest with state := .releasing, lastLeave := .halt, overCount := 0 }
      alerts := [causeAlert .sectionReleased k .halt], outcomes := [.releasedHalt] }
  | .armed | .watching =>
    { sec := { y with state := .bypassed, lastLeave := .halt }
      alerts := [causeAlert .sectionReleased k .halt], outcomes := [.releasedHalt] }
  | .out | .bypassed | .releasing | .fault => Moved.quiet y

/-- A section at a restart (R81). -/
def Section.restarted (x : Section) : Section :=
  let y := { x.dropPending with eligible := false, overCount := 0 }
  match x.state with
  | .injecting | .returningSlewing | .returningClosing =>
    { y.closeByRequest with state := .releasing, lastLeave := .restart }
  | .armed | .watching => { y with state := .bypassed, lastLeave := .restart }
  | .out | .bypassed | .releasing | .fault => y

/-- A section at an accepted DISARM_SECTION, by its state (R103); none when it is refused. -/
def disarmed (k : Fin 4) (x : Section) : Option Moved :=
  let y := { x with hold := true, eligible := false }
  match x.state with
  | .armed => some (Moved.quiet { y with pendingReq := .disarm })
  | .watching =>
    some { sec := { y.dropPending with state := .bypassed, lastLeave := .request }
           alerts := [causeAlert .sectionReleased k .request], outcomes := [.releasedRequest] }
  | .injecting | .returningSlewing | .returningClosing =>
    some { sec := { y.closeByRequest with state := .releasing, lastLeave := .request, overCount := 0 }
           alerts := [causeAlert .sectionReleased k .request], outcomes := [.releasedRequest] }
  | .bypassed | .releasing =>
    some (Moved.quiet { y with
      pendingReq := .none
      lastArm := if x.pendingReq = .arm then .withdrawn else x.lastArm })
  | .out | .fault => none

/-- A section sent to OUT by a Section Table (R78). -/
def Section.toOut (x : Section) : Section :=
  { x.dropPending.endConfirm with
    state := .out, lastLeave := .table, eligible := false, overCount := 0
    faultCause := none, closeSeen := false }

/-- A section when a Section Table is applied, by whether the engine is configured after it and by the
new in_service field (R78). -/
def Section.retabled (configured inService : Bool) (x : Section) : Section :=
  match configured, inService, x.state with
  | true, true, .out => { x with state := .bypassed }
  | true, true, _ => x
  | true, false, .out => x
  | true, false, _ => x.toOut
  | false, _, _ => x

/-- A section in service leaves OUT when another table makes the engine configured (R78). -/
def Section.joined (inService : Bool) (x : Section) : Section :=
  if inService && x.state == .out then { x with state := .bypassed } else x

end Sys2Proof.Machine
end

