-- ==== Sys2Proof/Machine/Injection.lean ====
section
/-! DEFINITION. The injection unit (R111 to R123). -/

namespace Sys2Proof.Machine

/-- A phase's reference with the method by which it was found. -/
structure PhaseRef where
  value  : Int
  method : Method
  deriving DecidableEq, Repr

/-- The nominal limit U_k (R113). -/
def nominalLimit (limitPm : Nat) : Nat := limitPm * Config.nominal / 1000

/-- The effective limit U_eff (R113). -/
def effectiveLimit (limitPm : Nat) (v : Int) : Nat :=
  nominalLimit limitPm * min v.toNat Config.nominal / Config.nominal

/-- The RESTORE formula with target T at the angle in force (R114). -/
def restoreRef (t refAngle : Nat) (p : Phase) (z : Int) : Int :=
  roundDiv (t * sine ((refAngle + p.phi) % Config.cycle)) 1000 - z

/-- The INPHASE formula on a phase that is not lost (R115). -/
def inphaseRef (t l : Nat) (z : Int) : Int :=
  roundDiv (z * ((t : Int) * Config.nominal - 1000 * (l : Int))) (1000 * l)

/-- Whether a phase is lost: its level is not valid or below 82; otherwise its level (R115). -/
def heldLevel (level : Option Nat) : Option Nat :=
  match level with
  | some l => if l < Config.lostLevel then none else some l
  | none => none

/-- INPHASE with target T, a lost phase by RESTORE; `method` names the phase that is not lost (R115,
R116). -/
def scaledRef (method : Method) (t refAngle : Nat) (p : Phase) (level : Option Nat) (z : Int) : PhaseRef :=
  match heldLevel level with
  | some l => ⟨inphaseRef t l z, method⟩
  | none => ⟨restoreRef t refAngle p z, .lost⟩

/-- Whether a phase meets the floor: T_f is 0, or its valid level is at or above it (R116). -/
def meetsFloor (tf : Nat) (level : Option Nat) : Bool :=
  tf == 0 || (match level with | some l => !levelBelow l tf | none => false)

/-- The FLOOR formula with floor target T_f (R116). -/
def floorRef (tf refAngle : Nat) (p : Phase) (level : Option Nat) (z : Int) : PhaseRef :=
  if meetsFloor tf level then ⟨0, .floorMet⟩ else scaledRef .floor tf refAngle p level z

/-- The formula that a state, a service level and a strategy choose (R112). -/
inductive Formula where
  | none | restore | inphase | floor
  deriving DecidableEq, Repr

/-- R112's table. -/
def formulaOf (state : SecState) (service : Service) (strategy : Strategy) : Formula :=
  match state with
  | .injecting =>
    match service, strategy with
    | .full, .restore => .restore
    | .full, .inphase => .inphase
    | .degraded, _ => .floor
  | .returningSlewing => .restore
  | .out | .bypassed | .armed | .watching | .returningClosing | .releasing | .fault => .none

/-- A phase's reference before the clamp (R112, R114 to R116). -/
def phaseRef (formula : Formula) (target tf refAngle : Nat) (p : Phase) (level : Option Nat) (z : Int) :
    PhaseRef :=
  match formula with
  | .none => ⟨0, .none⟩
  | .restore => ⟨restoreRef target refAngle p z, .restore⟩
  | .inphase => scaledRef .inphase target refAngle p level z
  | .floor => floorRef tf refAngle p level z

/-- A value clamped to -U_eff..U_eff (R117). -/
def clampRef (uEff : Nat) (u : Int) : Int := clampInt (-(uEff : Int)) uEff u

/-- The energy of the frame (R119). -/
def frameEnergy (u i : Phases Int) : Int :=
  truncDiv (u.a * i.a + u.b * i.b + u.c * i.c) 8192

/-- The injection unit's items of a section for the frame (R112 to R119). -/
def injectSection (s : State) (k : Fin 4) : Injection :=
  let x := s.controller.sections.get k
  let formula := formulaOf x.state x.service (s.strategy k)
  let uEff := effectiveLimit (s.limit k) s.dcValue
  let raw : Phases PhaseRef := Phases.build fun p =>
    phaseRef formula (s.target k) (s.demand.get k).floorTarget s.tracker.refAngle p
      (s.levels.supply.get p) (s.supplyValue p)
  let refs : Phases Int := Phases.build fun p => clampRef uEff (raw.get p).value
  { refs := refs
    uEff := uEff
    method := Phases.build fun p => (raw.get p).method
    limited := anyPhase (Phases.build fun p => decide (refs.get p ≠ (raw.get p).value))
    energy := frameEnergy refs (Phases.build fun p => s.current k p) }

/-- The injection unit's work on a frame; none while the engine is not configured (R111, R122). -/
def injectionWork (s : State) : State :=
  if s.configured then { s with injection := Four.build (injectSection s) } else s

/-- The items that a restart and a silence expiry in RUNNING clear; U_eff stands (R122). -/
def Injection.cleared (x : Injection) : Injection :=
  { x with refs := Phases.all 0, method := Phases.all .none, limited := false, energy := 0 }

end Sys2Proof.Machine
end

