-- ==== Sys2Proof/Machine/Records.lean ====
section
/-! DEFINITION. The record unit (R147 to R157). -/

namespace Sys2Proof.Machine

/-- The rank of an outcome (R151). -/
def EntryOutcome.rank : EntryOutcome → Nat
  | .notArmed => 0
  | .watched => 1
  | .full => 2
  | .degraded => 3
  | .releasedStore => 4
  | .releasedRequest => 5
  | .releasedHalt => 5
  | .overcurrent => 6
  | .fault => 7
  | .linkSilent => 8

/-- The worse of a kept outcome and one handed: the handed one only when it ranks strictly higher (R151). -/
def worse (kept handed : EntryOutcome) : EntryOutcome :=
  if kept.rank < handed.rank then handed else kept

/-- The lower of an optional value and a new one (R150, R152). -/
def lowerOf (old : Option Nat) (new : Nat) : Option Nat :=
  match old with
  | some n => some (min n new)
  | none => some new

/-- An optional level entered in permille, an absent level leaving the field as it stands (R150, R152). -/
def enterLevel (old : Option Nat) (level : Option Nat) : Option Nat :=
  match level with
  | some l => lowerOf old (permille l)
  | none => old

/-- A sum kept within the bounds of the energy index (R120). -/
def addEnergy (index energy : Int) : Int :=
  clampInt (-Config.energyBound) Config.energyBound (index + energy)

/-- Applies a function to the newest record when it is OPEN; only the newest can be (R148). -/
def updateOpen (g : Record → Record) : List Record → List Record
  | [] => []
  | [r] => [if r.isOpen then g r else r]
  | r :: rs => r :: updateOpen g rs

/-- The engine with its OPEN record updated. -/
def State.updateOpenRecord (g : Record → Record) (s : State) : State :=
  { s with records := { s.records with list := updateOpen g s.records.list } }

/-- The newest record. -/
def newest (rs : List Record) : Option Record := rs.getLast?

/-- The OPEN record, if there is one. -/
def openRecord (rs : List Record) : Option Record :=
  match newest rs with
  | some r => if r.isOpen then some r else none
  | none => none

/-- A record closed with an end cause at a frame number (R153). -/
def Record.closed (cause : EndCause) (frame : BitVec 32) (r : Record) : Record :=
  { r with isOpen := false, endCause := some cause, episodeDuration := some (frame - r.startFrame) }

/-- Closes the OPEN record, if there is one (R153). -/
def closeRecord (cause : EndCause) (s : State) : State :=
  s.updateOpenRecord (Record.closed cause s.frameNumber)

/-- The entry of a section with an outcome handed to it (R151). -/
def Entry.handed (k : Fin 4) (o : EntryOutcome) (e : Entry) : Entry :=
  if e.sec = k then { e with worst := worse e.worst o } else e

/-- A record with an outcome handed for a section (R151). -/
def Record.handed (k : Fin 4) (o : EntryOutcome) (r : Record) : Record :=
  { r with entries := r.entries.map (Entry.handed k o) }

/-- Outcomes handed for a section; they are kept only while a record is OPEN (R151). -/
def handOutcomes (k : Fin 4) (os : List EntryOutcome) (s : State) : State :=
  s.updateOpenRecord fun r => os.foldl (fun r o => r.handed k o) r

/-- The outcomes of all four sections handed in section order. -/
def handAll (os : Four (List EntryOutcome)) (s : State) : State :=
  handOutcomes 3 os.i3 (handOutcomes 2 os.i2 (handOutcomes 1 os.i1 (handOutcomes 0 os.i0 s)))

/-- The entry a section opens with (R149). -/
def Entry.new (k : Fin 4) : Entry :=
  { sec := k, worst := .notArmed, firstOffset := none, minLoad := none, energy := 0 }

/-- The record opened in a sag-start frame (R149). -/
def newRecord (s : State) : Record :=
  { seq := s.records.nextSeq
    isOpen := true
    startFrame := s.frameNumber
    trigger := s.detector.trigger.getD ⟨.slow, .A⟩
    involved := s.detector.involved
    sagDuration := none
    episodeDuration := none
    minSupply := Phases.all none
    phaseJump := none
    fStart := s.store.level
    fLowest := s.store.level
    forced := false
    endCause := none
    entries := (four.filter fun k => s.inService k).map Entry.new }

/-- The list with its oldest record removed when it holds 32 (R149). -/
def makeRoom (rs : List Record) : List Record :=
  if Config.recordCapacity ≤ rs.length then rs.tail else rs

/-- The opening of a record in a sag-start frame: supersede, make room, append, SAG_START (R149). -/
def openNew (s : State) : State :=
  let t := closeRecord .superseded s
  let r := newRecord t
  { t with records :=
      { list := makeRoom t.records.list ++ [r], nextSeq := t.records.nextSeq + 1 } }.raise
    .sagStart ⟨r.seq, 0⟩

/-- The header of the OPEN record brought up to date from the frame (R150). -/
def Record.headed (s : State) (r : Record) : Record :=
  { r with
    involved := s.detector.involved
    sagDuration := if s.detector.sagEnd then s.detector.sagDuration else r.sagDuration
    minSupply := Phases.build fun p => enterLevel (r.minSupply.get p) (s.levels.supply.get p)
    phaseJump := s.detector.phaseJump
    fLowest := min r.fLowest s.store.level
    forced := r.forced || s.tracker.marks.forcedReturn }

/-- A section entry brought up to date from the frame (R152). -/
def Entry.updated (s : State) (e : Entry) : Entry :=
  let load := s.levels.load.get e.sec
  { e with
    firstOffset :=
      match e.firstOffset with
      | some n => some n
      | none =>
        if (s.controller.sections.get e.sec).state = .injecting then some s.detector.elapsed else none
    minLoad := enterLevel (enterLevel (enterLevel e.minLoad load.a) load.b) load.c
    energy := addEnergy e.energy (s.injection.get e.sec).energy }

/-- The OPEN record brought up to date from the frame (R150, R152). -/
def Record.updated (s : State) (r : Record) : Record :=
  let h := r.headed s
  { h with entries := h.entries.map (Entry.updated s) }

/-- The record unit's work on a frame: opening (R149), outcomes (R151), updates (R150, R152), and the
closing of a record whose episode has ended, with EPISODE_END (R153). -/
def recordWork (outcomes : Four (List EntryOutcome)) (ended : Bool) (s : State) : State :=
  let s1 := if s.sagStarts then openNew s else s
  let s2 := handAll outcomes s1
  let s3 := s2.updateOpenRecord (Record.updated s2)
  if ended then
    match openRecord s3.records.list with
    | some r => (closeRecord .recovered s3).raise .episodeEnd ⟨r.seq, 0⟩
    | none => s3
  else s3

end Sys2Proof.Machine
end

