-- ==== Sys2Proof/Machine/Formats.lean ====
section
/-! DEFINITION. The frames the engine sends and the answer payloads, word by word (R182, R184, 11.1 to
11.4). -/

namespace Sys2Proof.Machine

/-! ### Codes (11.4) -/

/-- Code of a measurement state. -/
def MeasState.code : MeasState → Nat
  | .unseen => 0 | .running => 1 | .silent => 2

/-- Code of a bypass position: 1 OPEN. -/
def Position.code : Position → Nat
  | .closed => 0 | .opened => 1

/-- Code of a bridge command: 1 ACTIVE. -/
def Bridge.code : Bridge → Nat
  | .blocked => 0 | .active => 1

/-- Code of a lock state. -/
def LockState.code : LockState → Nat
  | .unlocked => 0 | .locking => 1 | .locked => 2

/-- Code of a reference-in-force. -/
def RefInForce.code : RefInForce → Nat
  | .tracking => 0 | .held => 1 | .slewing => 2

/-- Code of a detector state. -/
def DetState.code : DetState → Nat
  | .clear => 0 | .suspect => 1 | .sag => 2 | .ending => 3

/-- Code of a run state. -/
def RunState.code : RunState → Nat
  | .halted => 0 | .running => 1

/-- Code of the reported state of a section: the state with its phase or service level. -/
def Section.reported (x : Section) : Nat :=
  match x.state with
  | .out => 0
  | .bypassed => 1
  | .armed => 2
  | .watching => 3
  | .injecting => match x.service with | .full => 4 | .degraded => 5
  | .returningSlewing => 6
  | .returningClosing => 7
  | .releasing => 8
  | .fault => 9

/-- Code of a confirm. -/
def Confirm.code : Confirm → Nat
  | .none => 0 | .opening => 1 | .closing => 2

/-- Code of a pending request. -/
def Pending.code : Pending → Nat
  | .none => 0 | .arm => 1 | .disarm => 2

/-- Code of a last arm outcome. -/
def ArmOutcome.code : ArmOutcome → Nat
  | .none => 0 | .applied => 1 | .discardedConditions => 2 | .discardedSag => 3 | .withdrawn => 4

/-- Code of an outcome. -/
def EntryOutcome.code : EntryOutcome → Nat
  | .notArmed => 0 | .watched => 1 | .full => 2 | .degraded => 3 | .releasedStore => 4
  | .releasedRequest => 5 | .releasedHalt => 6 | .overcurrent => 7 | .fault => 8 | .linkSilent => 9

/-- Code of an end cause. -/
def EndCause.code : EndCause → Nat
  | .recovered => 0 | .superseded => 1 | .linkSilent => 2 | .restart => 3

/-- Code of a class band. -/
def Band.code : Band → Nat
  | .serve => 0 | .degrade => 1 | .release => 2

/-- Code of a method. -/
def Method.code : Method → Nat
  | .none => 0 | .restore => 1 | .inphase => 2 | .floorMet => 3 | .floor => 4 | .lost => 5

/-- Code of a lock level. -/
def LockLevel.code : LockLevel → Nat
  | .unlocked => 0 | .locked => 1 | .fixed => 2

/-- Code of a load state. -/
def Load.code : Load → Nat
  | .idle => 0 | .opened _ _ => 1 | .pending _ _ => 2

/-- Code of a result. -/
def ResultCode.code : ResultCode → Nat
  | .ok => 0 | .pending => 1 | .refusedState => 2 | .badArgument => 3 | .locked => 4 | .noLoad => 5
  | .loadOpen => 6 | .statusNotClear => 7 | .incomplete => 8 | .tableInvalid => 9 | .notFound => 10
  | .unknownRequest => 11

/-- Code of a trigger kind: 1 FAST. -/
def TriggerKind.code : TriggerKind → Nat
  | .slow => 0 | .fast => 1

/-! ### Words -/

/-- A 32-bit quantity in two words, the more significant first (R184). -/
def two (x : BitVec 32) : List Word := [x.extractLsb' 16 16, x.extractLsb' 0 16]

/-- A mark: 1 for yes. -/
def mark (b : Bool) : Word := if b then 1 else 0

/-- The number whose bits are marks, bit 0 first. -/
def packBits : List Bool → Nat
  | [] => 0
  | b :: bs => b.toNat + 2 * packBits bs

/-- Fields of `width` bits packed into one number, the first at bit 0. -/
def packFields (width : Nat) : List Nat → Nat
  | [] => 0
  | n :: ns => n + 2 ^ width * packFields width ns

/-- The involved set in bits 0..2 and the type in bits 4..5 (11.2). -/
def involvedWord (i : Phases Bool) : Word :=
  Word.ofNat (packBits i.toList + 16 * involvedCount i)

/-- An optional number, 0 when absent. -/
def optNat (o : Option Nat) : Word := Word.ofNat (o.getD 0)

/-- An optional 32-bit count, 0 when absent. -/
def optTwo (o : Option Nat) : List Word := two (BitVec.ofNat 32 (o.getD 0))

/-- Words padded with zeros to a length, or cut to it. -/
def padTo (n : Nat) (ws : List Word) : List Word := (ws ++ List.replicate n 0).take n

/-- The slot-free flag: whether a MANAGE frame arriving now would be accepted (R173). -/
def State.slotFree (s : State) : Bool := s.management.slot.isNone

/-- A header word: kind, slot free in bit 4, origin in bit 5 (11.1). -/
def headerWord (kind : Nat) (slotFree originSilence : Bool) : Word :=
  Word.ofNat (kind + 16 * slotFree.toNat + 32 * originSilence.toNat)

/-! ### DRIVE (R124, 11.2) -/

/-- One section's items in a DRIVE frame. -/
structure DriveItems where
  bypass : Position
  bridge : Bridge
  refs   : Phases Int
  deriving DecidableEq, Repr

/-- A DRIVE frame (R124). -/
structure DriveFrame where
  slotFree : Bool
  origin   : Origin
  answered : Word
  items    : Four DriveItems
  deriving DecidableEq, Repr

/-- The four words of a section's items. -/
def DriveItems.words (d : DriveItems) : List Word :=
  [Word.ofNat (d.bypass.code + 2 * d.bridge.code),
   Word.ofInt d.refs.a, Word.ofInt d.refs.b, Word.ofInt d.refs.c]

/-- The words of a DRIVE frame (11.2). -/
def DriveFrame.words (d : DriveFrame) : List Word :=
  sealFrame ([headerWord 3 d.slotFree (d.origin == .silence), d.answered]
    ++ d.items.i0.words ++ d.items.i1.words ++ d.items.i2.words ++ d.items.i3.words)

/-- A section's items for an accepted frame: R82's commands and the injection unit's references. -/
def driveItems (s : State) (k : Fin 4) : DriveItems :=
  let x := s.controller.sections.get k
  { bypass := x.bypass
    bridge := x.bridge (s.front.status.get k).bridgeFault
    refs := (s.injection.get k).refs }

/-- The DRIVE frame that answers the accepted frame (R124, R125). -/
def sampleDrive (s : State) : DriveFrame :=
  { slotFree := s.slotFree, origin := .sample, answered := s.link.lastSeq
    items := Four.build (driveItems s) }

/-- The items of every section in a safe DRIVE frame (R127). -/
def safeItems : DriveItems := ⟨.closed, .blocked, Phases.all 0⟩

/-- The safe DRIVE frame (R127). -/
def safeDrive (s : State) : DriveFrame :=
  { slotFree := s.slotFree, origin := .silence, answered := s.link.lastSeq, items := Four.all safeItems }

/-! ### ALERT (R182, 11.2) -/

/-- The status summary's first word: run state, reference-in-force, lock state, as they stand when the
alert is sent (R182, log 33). -/
def summaryWord (s : State) : Word :=
  Word.ofNat (s.controller.run.code + 2 * s.tracker.ref.code + 8 * s.tracker.lock.code)

/-- The words of an ALERT frame sent in a state (11.2). -/
def alertWords (s : State) (k : AlertKind) (p : Payload) : List Word :=
  sealFrame ([headerWord 5 s.slotFree false, Word.ofNat k.number, p.first, p.second, summaryWord s,
      Word.ofNat s.store.level]
    ++ (s.controller.sections.map fun x => Word.ofNat x.reported).toList)

/-! ### ANSWER (R182, 11.2) -/

/-- Part 1 of a record answer, from word 3 (11.2). -/
def recordHeaderWords (r : Record) : List Word :=
  [r.seq, mark (!r.isOpen), Word.ofNat ((r.endCause.map EndCause.code).getD 0),
   Word.ofNat (packBits [r.sagDuration.isSome, r.episodeDuration.isSome, r.minSupply.a.isSome,
     r.minSupply.b.isSome, r.minSupply.c.isSome, r.phaseJump.isSome, r.endCause.isSome])]
  ++ two r.startFrame
  ++ [Word.ofNat (r.trigger.kind.code + 2 * r.trigger.phase.offset), involvedWord r.involved]
  ++ optTwo r.sagDuration
  ++ two (r.episodeDuration.getD 0)
  ++ [optNat r.minSupply.a, optNat r.minSupply.b, optNat r.minSupply.c,
      Word.ofInt (r.phaseJump.getD 0), Word.ofNat r.fStart, Word.ofNat r.fLowest, mark r.forced]

/-- A section entry in part 2 of a record answer (11.2). -/
def entryWords (e : Entry) : List Word :=
  [Word.ofNat (sectionNumber e.sec), Word.ofNat e.worst.code,
   Word.ofNat (packBits [e.firstOffset.isSome, e.minLoad.isSome])]
  ++ optTwo e.firstOffset ++ [optNat e.minLoad] ++ two (BitVec.ofInt 32 e.energy)

/-- Part 2 of a record answer, from word 3 (11.2). -/
def recordEntriesWords (r : Record) : List Word :=
  Word.ofNat r.entries.length :: r.entries.flatMap entryWords

/-- The payload of an answer part; the parts of a record answer are read from the snapshot (R155). -/
def bodyWords (snapshot : Option Record) : PartBody → List Word
  | .words ws => ws
  | .recordHeader => (snapshot.map recordHeaderWords).getD []
  | .recordEntries => (snapshot.map recordEntriesWords).getD []

/-- The words of an ANSWER frame (11.2); `slotFree` is the flag the frame carries (R173). -/
def answerWords (slotFree : Bool) (snapshot : Option Record) (p : AnswerPart) : List Word :=
  sealFrame ([headerWord 4 slotFree false, p.code,
      Word.ofNat (p.result.code + 256 * p.number + 1024 * p.parts)]
    ++ padTo 44 (bodyWords snapshot p.body))

/-! ### Payloads of the read requests -/

/-- READ_IDENT (R175, 11.2). -/
def identWords : List Word :=
  [Word.ofNat Config.vendorCode, Word.ofNat Config.partCode, Word.ofNat Config.designLevel,
   Word.ofNat Config.sectionCount, Word.ofNat Config.channelCount, Word.ofNat Config.recordCapacity,
   Word.ofNat Config.stagingWords]

/-- Load target and opened word count, 0 when the load state is IDLE (11.2). -/
def loadWordsOf : Load → List Word
  | .idle => [0, 0]
  | .opened t n => [Word.ofNat t.number, Word.ofNat n]
  | .pending t n => [Word.ofNat t.number, Word.ofNat n]

/-- READ_STATUS (R176, 11.2), words 3 to 36. Every item is reported as it stands, also where a silence
expiry has changed it since the latest frame (log 33). -/
def statusWords (s : State) : List Word :=
  [Word.ofNat s.link.meas.code, s.link.lastSeq]
  ++ two s.link.counter
  ++ [Word.ofNat s.controller.run.code, mark s.configured, mark s.controller.episode]
  ++ (s.controller.sections.map fun x => Word.ofNat x.reported).toList
  ++ [Word.ofNat s.tracker.lock.code, Word.ofNat s.tracker.ref.code, Word.ofNat s.detector.state.code,
      involvedWord s.detector.involved]
  ++ two (BitVec.ofNat 32 s.detector.dHalf)
  ++ [Word.ofNat s.store.level,
      Word.ofNat (packFields 2 ((s.store.band.map Band.code).toList)),
      Word.ofNat (packBits s.store.ready.toList), mark s.store.lowArmed,
      Word.ofNat s.records.list.length, ((s.records.list.head?.map Record.seq).getD 0),
      s.records.nextSeq, mark (openRecord s.records.list).isSome,
      Word.ofNat (packBits (s.loader.tables.toList.map Option.isSome)),
      Word.ofNat (packFields 2 (s.loader.locks.toList.map LockLevel.code)),
      Word.ofNat s.loader.load.code]
  ++ loadWordsOf s.loader.load
  ++ [Word.ofNat s.loader.staging.length,
      Word.ofNat (packBits [s.loader.sticky.lockedTarget, s.loader.sticky.sequence,
        s.loader.sticky.content, s.loader.sticky.cross]),
      Word.ofNat (packBits (alertKinds.map fun k => (s.management.alerts.get k).isSome)),
      Word.ofNat (packBits (alertKinds.map fun k => s.management.mask.get k))]

/-- READ_SECTION (R177, 11.2), words 3 to 22. Every item is reported as it stands (log 33). -/
def sectionWords (s : State) (k : Fin 4) : List Word :=
  let x := s.controller.sections.get k
  let j := s.injection.get k
  [Word.ofNat x.reported, Word.ofNat x.feedback.code, Word.ofNat x.confirm.code,
   Word.ofNat x.confirmTimer, mark x.closeSeen, Word.ofNat ((x.faultCause.map Cause.code).getD 0),
   Word.ofNat x.pendingReq.code, mark x.eligible, mark x.hold, Word.ofNat x.lastLeave.code,
   Word.ofNat x.lastArm.code, Word.ofNat (s.demand.get k).required,
   Word.ofInt j.refs.a, Word.ofInt j.refs.b, Word.ofInt j.refs.c, Word.ofNat j.uEff,
   Word.ofNat (packFields 4 [j.method.a.code, j.method.b.code, j.method.c.code]), mark j.limited]
  ++ two (BitVec.ofInt 32 j.energy)

end Sys2Proof.Machine
end

