-- ==== Sys2Proof/Machine/Ops.lean ====
section
/-! DEFINITION. Shared operations: the staging buffer (R158), the application of a table (R163, R164),
the lowering of the episode signal (R107), and sending on the Out port (R126, R181). -/

namespace Sys2Proof.Machine

/-! ### Staging buffer (R158, R160) -/

/-- A staging buffer: the words marked written, by index. An index that is not listed is unwritten. -/
abbrev Staging := List (Nat × Word)

/-- Every index of the list lies above `i`. -/
def stagingAbove (i : Nat) : Staging → Bool
  | [] => true
  | c :: cs => i < c.1 && stagingAbove i cs

/-- The canonical form: indices strictly rising. -/
def stagingRising : Staging → Bool
  | [] => true
  | c :: cs => stagingAbove c.1 cs && stagingRising cs

/-- The word written at an index, none when its mark is clear. -/
def readStaging (i : Nat) : Staging → Option Word
  | [] => none
  | c :: cs => if c.1 = i then some c.2 else readStaging i cs

/-- The buffer with a word written at an index (R160); the form stays canonical. -/
def writeStaging (i : Nat) (w : Word) : Staging → Staging
  | [] => [(i, w)]
  | c :: cs =>
    if i < c.1 then (i, w) :: c :: cs
    else if i = c.1 then (i, w) :: cs
    else c :: writeStaging i w cs

/-- Words written to consecutive indices (R160). -/
def writeRun (i : Nat) : List Word → Staging → Staging
  | [], m => m
  | w :: ws, m => writeRun (i + 1) ws (writeStaging i w m)

/-- Whether every index below `n` is marked written (R161). -/
def stagingComplete (n : Nat) (m : Staging) : Bool :=
  (List.range n).all fun i => (readStaging i m).isSome

/-- The image of a complete buffer of `n` words. -/
def stagingImage (n : Nat) (m : Staging) : List Word :=
  (List.range n).map fun i => (readStaging i m).getD 0

/-- The loader with its load closed: IDLE, and the buffer emptied (R158). -/
def Loader.closed (l : Loader) : Loader := { l with load := .idle, staging := [] }

/-- The engine with its load closed. -/
def closeLoad (s : State) : State := { s with loader := s.loader.closed }

/-! ### Content of an image (R162) -/

/-- Whether word `i` of an image lies within `lo..hi` (R186). -/
def fieldWithin (image : List Word) (i lo hi : Nat) : Bool :=
  decide (lo ≤ fieldOf image i) && decide (fieldOf image i ≤ hi)

/-- Content of the Supply Threshold Table (R40). -/
def supplyContent (image : List Word) : Bool :=
  fieldWithin image 0 0 1 && fieldWithin image 1 50 500 && fieldWithin image 2 1 8
    && fieldWithin image 3 500 980 && fieldWithin image 4 (fieldOf image 3 + 10) 1000
    && fieldWithin image 5 1 32 && fieldWithin image 6 1 64

/-- Content of one entry of the Section Table, at word `b` (R77). -/
def sectionEntryContent (image : List Word) (b : Nat) : Bool :=
  fieldWithin image b 0 1 && fieldWithin image (b + 1) 0 3 && fieldWithin image (b + 2) 0 1
    && fieldWithin image (b + 3) 900 1050 && fieldWithin image (b + 4) 100 800
    && fieldWithin image (b + 5) 1000 3500 && fieldWithin image (b + 6) 0 7
    && fieldWithin image (b + 7) 0 200 && fieldWithin image (b + 8) 1 64
    && fieldWithin image (b + 9) 1 64 && fieldWithin image (b + 10) 1 8
    && fieldWithin image (b + 11) 0 1

/-- Content of the Section Table (R77). -/
def sectionContent (image : List Word) : Bool :=
  four.all fun k => sectionEntryContent image (12 * k.val)

/-- Steps of a curve: each in range, until strictly increasing, levels non-decreasing, and the final
level at least the last one (R63). `untl` and `level` are those of the step before. -/
def stepsContent (untl level final : Nat) : List (Nat × Nat) → Bool
  | [] => decide (level ≤ final)
  | (u, l) :: rest =>
    decide (untl < u) && decide (level ≤ l) && decide (l ≤ 1000) && stepsContent u l final rest

/-- Content of one curve (R63). -/
def curveContent (c : Curve) : Bool := decide (c.final ≤ 1000) && stepsContent 0 0 c.final c.steps

/-- Content of the Curve Table: the walk fits and each curve is valid (R62, R63). -/
def curvesContent (image : List Word) : Bool :=
  match walkCurves image with
  | some curves => curves.all curveContent
  | none => false

/-- Content of the Store Table (R129). -/
def storeContent (image : List Word) : Bool :=
  fieldWithin image 0 300 900 && fieldWithin image 1 10 200
    && (four.all fun c => decide (imageDegrade image c ≤ 1000) && decide (imageRelease image c ≤ 1000)
      && decide (imageRelease image c ≤ imageDegrade image c))
    && decide (imageDegrade image 0 ≤ imageDegrade image 1)
    && decide (imageDegrade image 1 ≤ imageDegrade image 2)
    && decide (imageDegrade image 2 ≤ imageDegrade image 3)
    && decide (imageRelease image 0 ≤ imageRelease image 1)
    && decide (imageRelease image 1 ≤ imageRelease image 2)
    && decide (imageRelease image 2 ≤ imageRelease image 3)

/-- Content of the Reference Table (R19). -/
def referenceContent (image : List Word) : Bool :=
  fieldWithin image 0 4 40 && fieldWithin image 1 128 2048 && fieldWithin image 2 2 8
    && fieldWithin image 3 200 800 && fieldWithin image 4 1 16 && fieldWithin image 5 1 256
    && fieldWithin image 6 4 255 && fieldWithin image 7 200 2000

/-- Whether an image has valid content for its table (R162); every Calibration image has (R10). -/
def contentValid (t : TableId) (image : List Word) : Bool :=
  match t with
  | .calibration => true
  | .supply => supplyContent image
  | .sections => sectionContent image
  | .curves => curvesContent image
  | .store => storeContent image
  | .reference => referenceContent image

/-- curve_count of a Curve Table image. -/
def curveCount (image : List Word) : Nat := fieldOf image 0

/-- Whether every entry of a Section Table image names a curve below `count` (R65, R77). -/
def curvesNamedBelow (count : Nat) (sections : List Word) : Bool :=
  four.all fun k => decide (fieldOf sections (12 * k.val + 6) < count)

/-- The cross-table test, against the tables in use when valid (R65, R77, R162). -/
def crossValid (s : State) (t : TableId) (image : List Word) : Bool :=
  match t with
  | .sections =>
    match s.image .curves with
    | some curves => curvesNamedBelow (curveCount curves) image
    | none => true
  | .curves =>
    match s.image .sections with
    | some sections => curvesNamedBelow (curveCount image) sections
    | none => true
  | .calibration | .supply | .store | .reference => true

/-! ### The application of a table (R163, R164) -/

/-- The image becomes the table's contents, and the table valid. -/
def placeTable (t : TableId) (image : List Word) (s : State) : State :=
  { s with loader := { s.loader with tables := s.loader.tables.set t (some image) } }

/-- The engine with its four sections replaced. -/
def State.withSections (s : State) (secs : Four Section) : State :=
  { s with controller := { s.controller with sections := secs } }

/-- Sections in service leave OUT when a table other than the Section Table makes the engine
configured (R78). -/
def joinSections (before : Bool) (s : State) : State :=
  if !before && s.configured then
    s.withSections (Four.build fun k => (s.controller.sections.get k).joined (s.inService k))
  else s

/-- The sections' reaction to an applied Section Table (R78). -/
def retableSections (s : State) : State :=
  s.withSections (Four.build fun k =>
    (s.controller.sections.get k).retabled s.configured (s.inService k))

/-- The owner's reaction to the application of its table, which is already in place; `before` is
whether the engine was configured before (R10, R36, R59, R66, R78, R131). -/
def reactTo (t : TableId) (before : Bool) (image : List Word) (s : State) : State :=
  match t with
  | .calibration => joinSections before s
  | .supply => joinSections before { s with detector := s.detector.retabled }
  | .sections => retableSections s
  | .curves => joinSections before s
  | .store => joinSections before { s with store := { s.store with levels := some (deriveLevels image) } }
  | .reference => joinSections before { s with tracker := s.tracker.retabled s.span }

/-- The application of an image as the contents of a table. -/
def applyTable (t : TableId) (image : List Word) (s : State) : State :=
  reactTo t s.configured image (placeTable t image s)

/-- The deferred application when the episode signal is lowered: a PENDING image is applied, the load
closes, and COMMIT_DONE is raised (R164). -/
def deferredApply (s : State) : State :=
  match s.loader.load with
  | .pending t n =>
    (applyTable t (stagingImage n s.loader.staging) (closeLoad s)).raise .commitDone (payload1 t.number)
  | .idle | .opened _ _ => s

/-! ### The Out port (R126, R181) -/

/-- The engine after it sends a frame on the Out port. -/
def State.send (s : State) (words : List Word) : State := { s with outPort := s.outPort ++ [words] }

/-- Sends an alert: the frame is made from the state as it stands, and the flag is cleared (R181, R182). -/
def sendAlert (k : AlertKind) (p : Payload) (s : State) : State :=
  let t := s.send (alertWords s k p)
  { t with management := { t.management with alerts := t.management.alerts.set k none } }

/-- Sends the first answer part; with the last part the request slot becomes free and the snapshot is
released (R155, R171, R173). -/
def sendPart (p : AnswerPart) (rest : List AnswerPart) (s : State) : State :=
  let last := rest.isEmpty
  let t := s.send (answerWords last s.management.snapshot p)
  { t with management := { t.management with
      queue := rest
      slot := if last then none else t.management.slot
      snapshot := if last then none else t.management.snapshot } }

/-- The out slot: an urgent alert, else an answer part, else another alert, else nothing (R181). -/
def fillOutSlot (s : State) : State :=
  match s.management.firstCandidate urgentKinds with
  | some (k, p) => sendAlert k p s
  | none =>
    match s.management.queue with
    | part :: rest => sendPart part rest s
    | [] =>
      match s.management.firstCandidate otherKinds with
      | some (k, p) => sendAlert k p s
      | none => s

/-- A command begins: what the one before it sent has left the Out port (log 3). -/
def State.begin (s : State) : State := { s with outPort := [] }

end Sys2Proof.Machine
end

