-- ==== Sys2Proof/Machine/Frame.lean ====
section
/-! DEFINITION. The path of a SAMPLE frame through the blocks (00 section 3.1), and the silence expiry
(R7, R8). -/

namespace Sys2Proof.Machine

/-! ### An accepted frame -/

/-- The measurement: the link interface, then the front end (R2 to R17). -/
def measureFrame (c : StepClass) (f : SampleFrame) (s : State) : State :=
  frontWork c f (linkWork c f s)

/-- The judgement of a measured frame: tracker's first part, store, detector, tracker's second part,
demand (R20, R41, R67, R132). `prev` is read before the frame's own values came in. -/
def judgeFrame (prev : Previous) (c : StepClass) (s : State) : State :=
  demandWork (trackerSecond (detectorWork prev c (storeWork (trackerFirst prev c.gap s))))

/-- The answer to a judged frame up to its out slot: sections, references, the DRIVE frame, the record,
and a deferred application (R83, R111, R125, R126, R149, R164). -/
def beforeSlot (s : State) : State :=
  let c := controllerWork s
  let t := injectionWork c.state
  let u := recordWork c.outcomes c.ended (t.send (sampleDrive t).words)
  if c.ended then deferredApply u else u

/-- The answer to a judged frame, its out slot filled with every alert of the frame raised (R126, R181). -/
def answerFrame (s : State) : State := fillOutSlot (beforeSlot s)

/-- The whole of an accepted frame. -/
def acceptFrame (c : StepClass) (f : SampleFrame) (s : State) : State :=
  answerFrame (judgeFrame s.previous c (measureFrame c f s))

/-- A SAMPLE frame that has passed R1 is classified; a duplicate is discarded (R2, R3). -/
def classifiedFrame (f : SampleFrame) (s : State) : State :=
  match classify s.link f.seq with
  | some c => acceptFrame c f s
  | none => s

/-- A SAMPLE frame at the In port. It is discarded without trace while the reset line is asserted
(R5), and when its codes are not those of a frame of its kind's length (R1). -/
def sampleArrives (f : SampleFrame) (s : State) : State :=
  if s.resetLine || f.codes.length != Config.channelCount then s else classifiedFrame f s

/-! ### The silence expiry -/

/-- The link interface at an expiry: SILENT, the timer idle (R7, R8). -/
def linkSilenced (s : State) : State :=
  { s with link := { s.link with meas := .silent, timer := none } }

/-- The tracker at an expiry in RUNNING (R37). -/
def trackerSilenced (s : State) : State :=
  unlockAlert s.tracker.lock .unlocked { s with tracker := s.tracker.silenced }

/-- The outcomes of an expiry: LINK_SILENT for each section it moves (R108, R154). -/
def silenceOutcomes (secs : Four Section) : Four (List EntryOutcome) :=
  secs.map fun x => if x.state.active then [.linkSilent] else []

/-- Whether any section is ARMED, WATCHING, INJECTING, RETURNING or RELEASING (R7). -/
def anyActive (secs : Four Section) : Bool :=
  secs.i0.state.active || secs.i1.state.active || secs.i2.state.active || secs.i3.state.active

/-- The blocks at an expiry in RUNNING, up to the lowering of the episode signal: tracker, detector,
record unit, sections, injection unit and the alert (R7, R37, R57, R100, R122, R154). -/
def blocksSilenced (s : State) : State :=
  let s1 := trackerSilenced (linkSilenced s)
  let s2 := closeRecord .linkSilent (handAll (silenceOutcomes s1.controller.sections) s1)
  let s3 := { s2 with
    detector := s2.detector.silenced
    injection := s2.injection.map Injection.cleared }
  (s3.withSections (s3.controller.sections.map Section.silenced)).raise .linkSilent noPayload

/-- The lowering of the signal when it is up, with its consequences (R94, R107, R164). -/
def lowerAndApply (s : State) : State :=
  if s.controller.episode then deferredApply { s with controller := s.controller.lowered } else s

/-- An expiry in RUNNING (R7): its effects, then the safe DRIVE frame and its out slot when some section
was active (R127). -/
def expiryRunning (s : State) : State :=
  let t := lowerAndApply (blocksSilenced s)
  if anyActive s.controller.sections then fillOutSlot (t.send (safeDrive t).words) else t

/-- An expiry in HALTED (R8). -/
def expiryHalted (s : State) : State := (linkSilenced s).raise .linkSilent noPayload

/-- The silence timer expires. An idle timer cannot expire, so nothing happens then (R6, log 4). -/
def silenceExpires (s : State) : State :=
  if s.resetLine then s
  else match s.link.timer with
    | none => s
    | some _ =>
      match s.controller.run with
      | .running => expiryRunning s
      | .halted => expiryHalted s

/-- One of the two arrivals after which an out slot can open. -/
def occasionArrives (o : Occasion) (s : State) : State :=
  match o with
  | .sample f => sampleArrives f s
  | .silence => silenceExpires s

end Sys2Proof.Machine
end

