-- ==== Sys2Proof/Machine/Requests.lean ====
section
/-! DEFINITION. The request slot (R171 to R174) and the effect of each request at its owner. -/

namespace Sys2Proof.Machine

/-! ### The request slot -/

/-- The answer to a request: its result code and the bodies of its parts. -/
structure Reply where
  result : ResultCode
  bodies : List PartBody
  deriving DecidableEq, Repr

/-- An answer of one part without payload. -/
def Reply.code (r : ResultCode) : Reply := ⟨r, [.words []]⟩

/-- An answer OK of one part with payload words. -/
def Reply.words (ws : List Word) : Reply := ⟨.ok, [.words ws]⟩

/-- The parts of an answer, numbered from 1 (R173). -/
def numberParts (code : Word) (result : ResultCode) (parts number : Nat) : List PartBody → List AnswerPart
  | [] => []
  | b :: bs => ⟨code, result, number, parts, b⟩ :: numberParts code result parts (number + 1) bs

/-- The answer queue of a request (R173). -/
def Reply.parts (r : Reply) (code : Word) : List AnswerPart :=
  numberParts code r.result r.bodies.length 1 r.bodies

/-- A request with up to three arguments and no data words. -/
def Request.plain (code : Nat) (arg1 arg2 arg3 : Word) : Request :=
  ⟨Word.ofNat code, arg1, arg2, arg3, List.replicate 16 0⟩

/-- What a request does when it is taken: the engine after its effect, and its answer. -/
abbrev Effect := State → State × Reply

/-- A request accepted into the empty slot takes its effect at once, and its answer is queued (R171). -/
def acceptRequest (r : Request) (effect : Effect) (s : State) : State :=
  let t := effect { s with management := { s.management with slot := some r } }
  { t.1 with management := { t.1.management with queue := t.2.parts r.code } }

/-- A MANAGE frame that has passed R1. It is discarded without trace while the reset line is asserted
(R5) and when its data words are not those of a frame of its kind's length (R1); it is discarded with
REQUEST_OVERRUN while the slot is occupied (R172). -/
def serve (r : Request) (effect : Effect) (s : State) : State :=
  if s.resetLine || r.data.length != 16 then s
  else if s.management.slot.isSome then s.raise .requestOverrun noPayload
  else acceptRequest r effect s

/-- A request that names a section outside 1..4 is answered BAD_ARGUMENT (R174). -/
def onSection (arg : Word) (effect : Fin 4 → Effect) : Effect := fun s =>
  match sectionArg arg with
  | some k => effect k s
  | none => (s, Reply.code .badArgument)

/-- A request that names a table outside 0..5 is answered BAD_ARGUMENT (R186). -/
def onTable (arg : Word) (effect : TableId → Effect) : Effect := fun s =>
  match TableId.ofNat? arg.toNat with
  | some t => effect t s
  | none => (s, Reply.code .badArgument)

/-! ### Read requests -/

/-- An unknown request code: no effect (R174). -/
def unknownEffect : Effect := fun s => (s, Reply.code .unknownRequest)

/-- READ_IDENT (R175). -/
def readIdentEffect : Effect := fun s => (s, Reply.words identWords)

/-- READ_STATUS (R176). -/
def readStatusEffect : Effect := fun s => (s, Reply.words (statusWords s))

/-- READ_SECTION (R177). -/
def readSectionEffect (k : Fin 4) : Effect := fun s => (s, Reply.words (sectionWords s k))

/-- READ_TABLE (R167). -/
def readTableEffect (offset count : Word) (t : TableId) : Effect := fun s =>
  match s.image t with
  | none => (s, Reply.code .refusedState)
  | some image =>
    if count.toNat < 1 ∨ 16 < count.toNat ∨ image.length < offset.toNat + count.toNat then
      (s, Reply.code .badArgument)
    else (s, Reply.words (count :: (image.drop offset.toNat).take count.toNat))

/-- FETCH_RECORD: the oldest record is copied into the snapshot, in two parts (R155). -/
def fetchRecordEffect : Effect := fun s =>
  match s.records.list with
  | [] => (s, Reply.code .notFound)
  | r :: _ =>
    ({ s with management := { s.management with snapshot := some r } },
     ⟨.ok, [.recordHeader, .recordEntries]⟩)

/-- DISCARD_RECORD (R156). -/
def discardRecordEffect (seq : Word) : Effect := fun s =>
  match s.records.list with
  | [] => (s, Reply.code .notFound)
  | r :: rs =>
    if r.seq ≠ seq then (s, Reply.code .notFound)
    else if r.isOpen then (s, Reply.code .refusedState)
    else ({ s with records := { s.records with list := rs } }, Reply.code .ok)

/-! ### Run state and sections -/

/-- RUN (R79). -/
def runEffect : Effect := fun s =>
  if s.configured && s.controller.run == .halted then
    ({ s with controller := { s.controller with run := .running } }, Reply.code .ok)
  else (s, Reply.code .refusedState)

/-- Four sections' moves put in place between frames: their alerts are raised in section order, and
their outcomes handed to the OPEN record (R108, R151). -/
def placeMoves (m : Four Moved) (s : State) : State :=
  handAll (m.map Moved.outcomes) (placeSections m s)

/-- HALT (R80). -/
def haltEffect : Effect := fun s =>
  let m : Four Moved := Four.build fun k => haltSection k (s.controller.sections.get k)
  (placeMoves m { s with controller := { s.controller with run := .halted } }, Reply.code .ok)

/-- The section controller at a restart: HALTED, the sections by R81, and the signal lowered with every
service level FULL when it was up (R107, R110). -/
def Controller.restarted (c : Controller) : Controller :=
  let d := { c with run := .halted, sections := c.sections.map Section.restarted }
  if c.episode then d.lowered else d

/-- RESTART (R178): the load is dropped before the signal is lowered, so nothing is applied (R164,
R170); the link interface and the store allocator keep their state (R5, R146). -/
def restartEffect : Effect := fun s =>
  let t := closeRecord .restart s
  ({ t with
      front := t.front.emptied
      tracker := t.tracker.restarted
      detector := t.detector.restarted
      controller := t.controller.restarted
      injection := t.injection.map Injection.cleared
      loader := { t.loader.closed with sticky := Sticky.clear }
      management := { t.management with snapshot := none, alerts := PerKind.all none } },
   Reply.code .ok)

/-- The engine with one section replaced. -/
def State.withSection (s : State) (k : Fin 4) (x : Section) : State :=
  s.withSections (s.controller.sections.set k x)

/-- ARM_SECTION (R101). -/
def armSectionEffect (k : Fin 4) : Effect := fun s =>
  let x := s.controller.sections.get k
  if x.state = .bypassed ∧ s.armingConditions k = true then
    (s.withSection k { x with pendingReq := .arm, hold := false }, Reply.code .ok)
  else (s, Reply.code .refusedState)

/-- DISARM_SECTION (R103). -/
def disarmSectionEffect (k : Fin 4) : Effect := fun s =>
  match disarmed k (s.controller.sections.get k) with
  | some m => (handOutcomes k m.outcomes ((s.withSection k m.sec).raiseAll m.alerts), Reply.code .ok)
  | none => (s, Reply.code .refusedState)

/-- A section cleared from FAULT (R104). -/
def Section.faultCleared (x : Section) : Section :=
  { x.endConfirm with state := .bypassed, faultCause := none, closeSeen := false }

/-- CLEAR_FAULT (R104). -/
def clearFaultEffect (k : Fin 4) : Effect := fun s =>
  let x := s.controller.sections.get k
  if x.state = .fault ∧ x.feedback = .closed ∧ (s.front.status.get k).bridgeFault = false then
    (s.withSection k x.faultCleared, Reply.code .ok)
  else (s, Reply.code .refusedState)

/-! ### Table loading -/

/-- Whether a word count lies within a table's word range (R159). -/
def wordsInRange (t : TableId) (n : Nat) : Bool :=
  match t with
  | .calibration => n == 56
  | .supply => n == 7
  | .sections => n == 48
  | .curves => decide (1 ≤ n) && decide (n ≤ 145)
  | .store => n == 10
  | .reference => n == 8

/-- BEGIN_LOAD on a table that exists: the tests of R159 in their order. -/
def beginLoadEffect (words : Word) (t : TableId) : Effect := fun s =>
  if s.loader.load ≠ .idle then (s, Reply.code .loadOpen)
  else if s.loader.sticky.any then (s, Reply.code .statusNotClear)
  else if s.loader.locks.get t ≠ .unlocked then (s.setLockedTarget, Reply.code .locked)
  else if !wordsInRange t words.toNat then (s, Reply.code .badArgument)
  else ({ s with loader := { s.loader with load := .opened t words.toNat, staging := [] } }, Reply.code .ok)

/-- LOAD_WORDS: the conditions of R160 in their order. The data words beyond the count are ignored
(R186). -/
def loadWordsEffect (offset count : Word) (data : List Word) : Effect := fun s =>
  match s.loader.load with
  | .opened _ n =>
    if count.toNat < 1 ∨ 16 < count.toNat then (s.setSequence, Reply.code .badArgument)
    else if n < offset.toNat + count.toNat then (s.setSequence, Reply.code .badArgument)
    else
      ({ s with loader := { s.loader with
          staging := writeRun offset.toNat (data.take count.toNat) s.loader.staging } }, Reply.code .ok)
  | .idle | .pending _ _ => (s.setSequence, Reply.code .noLoad)

/-- An accepted image placed in use (R163): at once when the signal is down, PENDING when it is up. -/
def placeImage (t : TableId) (n : Nat) : Effect := fun s =>
  if s.controller.episode then
    ({ s with loader := { s.loader with load := .pending t n } }, Reply.code .pending)
  else (applyTable t (stagingImage n s.loader.staging) (closeLoad s), Reply.code .ok)

/-- The judgement of a complete image (R162). -/
def judgeImage (t : TableId) (n : Nat) : Effect := fun s =>
  let image := stagingImage n s.loader.staging
  if !contentValid t image then (closeLoad s.setContent, Reply.code .tableInvalid)
  else if !crossValid s t image then (closeLoad s.setCross, Reply.code .tableInvalid)
  else placeImage t n s

/-- COMMIT_TABLE: the tests of R161 in their order, then R162 and R163. -/
def commitTableEffect (table : Word) : Effect := fun s =>
  match s.loader.load with
  | .opened t n =>
    if table.toNat ≠ t.number then (s.setSequence, Reply.code .badArgument)
    else if s.loader.locks.get t ≠ .unlocked then (closeLoad s.setLockedTarget, Reply.code .locked)
    else if !stagingComplete n s.loader.staging then (s.setSequence, Reply.code .incomplete)
    else judgeImage t n s
  | .idle | .pending _ _ => (s, Reply.code .noLoad)

/-- DROP_LOAD (R165). -/
def dropLoadEffect : Effect := fun s =>
  match s.loader.load with
  | .idle => (s, Reply.code .noLoad)
  | .opened _ _ | .pending _ _ => (closeLoad s, Reply.code .ok)

/-- CLEAR_LOAD_FLAGS (R166). -/
def clearLoadFlagsEffect : Effect := fun s =>
  ({ s with loader := { s.loader with sticky := Sticky.clear } }, Reply.code .ok)

/-! ### Locks -/

/-- The lock level an argument of LOCK_TABLE names: 1 LOCKED, 2 FIXED (11.2, R186). -/
def lockArg (w : Word) : Option LockLevel :=
  match w.toNat with
  | 1 => some .locked
  | 2 => some .fixed
  | _ => none

/-- The higher of two lock levels (R168). -/
def higherLock (a b : LockLevel) : LockLevel := if a.code < b.code then b else a

/-- The engine with one table's lock level replaced. -/
def State.withLock (s : State) (t : TableId) (l : LockLevel) : State :=
  { s with loader := { s.loader with locks := s.loader.locks.set t l } }

/-- LOCK_TABLE on a table that exists (R168). -/
def lockTableEffect (level : Word) (t : TableId) : Effect := fun s =>
  match lockArg level with
  | some l => (s.withLock t (higherLock (s.loader.locks.get t) l), Reply.code .ok)
  | none => (s, Reply.code .badArgument)

/-- UNLOCK_TABLE on a table that exists, with the MNT line as it stands (R169). -/
def unlockTableEffect (t : TableId) : Effect := fun s =>
  if s.loader.locks.get t = .fixed ∧ s.mntLine = false then (s, Reply.code .locked)
  else (s.withLock t .unlocked, Reply.code .ok)

/-! ### Alerts -/

/-- SET_ALERT_MASK (R180). -/
def setAlertMaskEffect (marks : Word) : Effect := fun s =>
  if marksBeyond marks then (s, Reply.code .badArgument)
  else ({ s with management := { s.management with mask := maskOf marks } }, Reply.code .ok)

/-- CLEAR_ALERTS (R180). -/
def clearAlertsEffect (marks : Word) : Effect := fun s =>
  if marksBeyond marks then (s, Reply.code .badArgument)
  else
    ({ s with management := { s.management with alerts := clearMarked marks s.management.alerts } },
     Reply.code .ok)

/-! ### A MANAGE frame as words -/

/-- The effect of a request by its code: 1..21 in the order of 10.3, every other code unknown (11.2,
R174). -/
def effectOf (r : Request) : Effect :=
  match r.code.toNat with
  | 1 => readIdentEffect
  | 2 => readStatusEffect
  | 3 => onSection r.arg1 readSectionEffect
  | 4 => onTable r.arg1 (readTableEffect r.arg2 r.arg3)
  | 5 => fetchRecordEffect
  | 6 => discardRecordEffect r.arg1
  | 7 => runEffect
  | 8 => haltEffect
  | 9 => restartEffect
  | 10 => onSection r.arg1 armSectionEffect
  | 11 => onSection r.arg1 disarmSectionEffect
  | 12 => onSection r.arg1 clearFaultEffect
  | 13 => onTable r.arg1 (beginLoadEffect r.arg2)
  | 14 => loadWordsEffect r.arg1 r.arg2 r.data
  | 15 => commitTableEffect r.arg1
  | 16 => dropLoadEffect
  | 17 => onTable r.arg1 (lockTableEffect r.arg2)
  | 18 => onTable r.arg1 unlockTableEffect
  | 19 => clearLoadFlagsEffect
  | 20 => setAlertMaskEffect r.arg1
  | 21 => clearAlertsEffect r.arg1
  | _ => unknownEffect

/-- The request that a MANAGE frame's words hold (11.2). -/
def requestOfWords (frame : List Word) : Request :=
  { code := frame.getD 1 0
    arg1 := frame.getD 2 0
    arg2 := frame.getD 3 0
    arg3 := frame.getD 4 0
    data := (frame.drop 5).take 16 }

/-- The words of the MANAGE frame of a request, as the supervisor sends it (11.2). -/
def wordsOfRequest (r : Request) : List Word :=
  sealFrame ([2, r.code, r.arg1, r.arg2, r.arg3] ++ r.data)

/-- Words arriving at the In port (R1): a frame that fails a check is discarded without trace, a SAMPLE
frame is classified, a MANAGE frame is handed to the management unit. -/
def wordsArrive (frame : List Word) (s : State) : State :=
  if passesChecks frame then
    if headerKind (frame.getD 0 0) = 1 then sampleArrives (sampleOfWords frame) s
    else serve (requestOfWords frame) (effectOf (requestOfWords frame)) s
  else s

end Sys2Proof.Machine
end

