-- ==== Sys2Proof/Machine/Arrivals.lean ====
section
/-! DEFINITION. The meanings of the arrivals and lines: SAMPLE_FRAME, DISCARD_WITHOUT_TRACE,
POWER_ON_RESET, RESET_LINE_RELEASE, SILENCE_EXPIRY. -/

namespace Sys2Proof.Machine

/-- The outcome of a command. -/
abbrev Result := Host.Outcome State Fault Refusal

/-- SAMPLE_FRAME (R2, R3): a duplicate is discarded, an accepted frame is processed by every block. -/
def execSampleFrame (f : SampleFrame) (s : State) : Result :=
  .next (sampleArrives f s.begin)

/-- DISCARD_WITHOUT_TRACE (R1, R185): words arrive and are judged by the checks of R1, so a frame that
fails one changes nothing and nothing is sent. (Words that pass are no frame of this row; they are
taken as the frame they are, log 7.) -/
def execDiscardWithoutTrace (frame : List Word) (s : State) : Result :=
  .next (wordsArrive frame s.begin)

/-- The power-on values of every block (R5), under the lines and the queue as they are. -/
def powerOn (lineAsserted : Bool) (s : State) : State :=
  { State.reset with pending := s.pending, mntLine := s.mntLine, resetLine := lineAsserted }

/-- POWER_ON_RESET (R5): `lineAsserted` says whether the reset line stays asserted. -/
def execPowerOnReset (lineAsserted : Bool) (s : State) : Result :=
  .next (powerOn lineAsserted s)

/-- RESET_LINE_RELEASE (R5): frames that arrive from now on are judged by R1 again. -/
def execResetLineRelease (s : State) : Result :=
  .next { s.begin with resetLine := false }

/-- SILENCE_EXPIRY (R7, R8). -/
def execSilenceExpiry (s : State) : Result :=
  .next (silenceExpires s.begin)

end Sys2Proof.Machine
end

