-- ==== Sys2Proof/Machine/Events.lean ====
section
/-! DEFINITION. The meanings of the event rows. Each row is a whole step of the part (spec/95): the arrival
in whose processing the event comes about. The engine processes that arrival by the rules, whatever
name the row gives it, so whether the event comes about follows from the state and the frame (log 2). -/

namespace Sys2Proof.Machine

/-- WINDOW_REFILL_DONE (R16): the frame with which the level windows reach 16 values, so that their levels
are published valid again (R15). -/
def execWindowRefillDone (f : SampleFrame) (s : State) : Result :=
  .next (sampleArrives f s.begin)

/-- LOCK_GAINED (R24): the frame whose good crossing brings the good count of a LOCKING tracker to
lock_count. -/
def execLockGained (f : SampleFrame) (s : State) : Result :=
  .next (sampleArrives f s.begin)

/-- BAD_CROSSING_UNLOCK (R25): the frame whose bad crossing brings the bad count to 2; TRACKER_UNLOCK is
raised when the tracker was LOCKING or LOCKED (R27). -/
def execBadCrossingUnlock (f : SampleFrame) (s : State) : Result :=
  .next (sampleArrives f s.begin)

/-- QUIET_UNLOCK (R26): the frame in which the quiet count reaches 256. -/
def execQuietUnlock (f : SampleFrame) (s : State) : Result :=
  .next (sampleArrives f s.begin)

/-- REFERENCE_BECAME_TRACKING (R32): the frame in which the slew has caught up, the tracker is LOCKED and
enough settle crossings have been taken. -/
def execReferenceBecameTracking (f : SampleFrame) (s : State) : Result :=
  .next (sampleArrives f s.begin)

/-- FORCED_RETURN (R33): the frame in which the return timer reaches return_limit × 64 while SLEWING. -/
def execForcedReturn (f : SampleFrame) (s : State) : Result :=
  .next (sampleArrives f s.begin)

/-- SAG_START (R48): the frame in which a slow or fast counter reaches its qualification count. -/
def execSagStart (f : SampleFrame) (s : State) : Result :=
  .next (sampleArrives f s.begin)

/-- SAG_END (R54): the frame in which the recovery count reaches end_qualify. -/
def execSagEnd (f : SampleFrame) (s : State) : Result :=
  .next (sampleArrives f s.begin)

/-- FEEDBACK_ACCEPTED (R85): the frame in which a section's filter count reaches the filter length. -/
def execFeedbackAccepted (f : SampleFrame) (s : State) : Result :=
  .next (sampleArrives f s.begin)

/-- OPEN_CONFIRMED (R87): the frame in which an OPEN confirm succeeds. -/
def execOpenConfirmed (f : SampleFrame) (s : State) : Result :=
  .next (sampleArrives f s.begin)

/-- OPEN_STUCK (R87): the frame in which an OPEN confirm times out. -/
def execOpenStuck (f : SampleFrame) (s : State) : Result :=
  .next (sampleArrives f s.begin)

/-- CLOSE_CONFIRMED (R88): the frame in which a CLOSE confirm succeeds. -/
def execCloseConfirmed (f : SampleFrame) (s : State) : Result :=
  .next (sampleArrives f s.begin)

/-- CLOSE_STUCK (R88): the frame in which a CLOSE confirm times out. -/
def execCloseStuck (f : SampleFrame) (s : State) : Result :=
  .next (sampleArrives f s.begin)

/-- OVERCURRENT (R99): the second consecutive over frame of a section. -/
def execOvercurrent (f : SampleFrame) (s : State) : Result :=
  .next (sampleArrives f s.begin)

/-- ARM_APPLIED (R102): a reference cycle boundary that finds an ARM pending. -/
def execArmApplied (f : SampleFrame) (s : State) : Result :=
  .next (sampleArrives f s.begin)

/-- DISARM_APPLIED (R103): a reference cycle boundary that finds a DISARM pending. -/
def execDisarmApplied (f : SampleFrame) (s : State) : Result :=
  .next (sampleArrives f s.begin)

/-- AUTOMATIC_REARM (R106): a reference cycle boundary at which an eligible section re-arms itself. -/
def execAutomaticRearm (f : SampleFrame) (s : State) : Result :=
  .next (sampleArrives f s.begin)

/-- DEFERRED_APPLICATION (R164): the frame or the expiry that lowers the episode signal with a load
PENDING. -/
def execDeferredApplication (o : Occasion) (s : State) : Result :=
  .next (occasionArrives o s.begin)

/-- ANSWER_PART (R173, R181): the frame or the expiry whose out slot an answer part takes. -/
def execAnswerPart (o : Occasion) (s : State) : Result :=
  .next (occasionArrives o s.begin)

/-- ALERT_FRAME (R181, R182): the frame or the expiry whose out slot an alert takes. -/
def execAlertFrame (o : Occasion) (s : State) : Result :=
  .next (occasionArrives o s.begin)

end Sys2Proof.Machine
end

