-- ==== Sys2Proof/Machine/Management.lean ====
section
/-! DEFINITION. The meanings of the requests: each MANAGE frame is judged by the request slot (R171,
R172), and an accepted request takes the effect its owner gives it. -/

namespace Sys2Proof.Machine

/-- UNKNOWN_REQUEST (R174). (A code of the table is served as the request it names, log 7.) -/
def execUnknownRequest (code arg1 arg2 arg3 : Word) (data : List Word) (s : State) : Result :=
  .next (serve ⟨code, arg1, arg2, arg3, data⟩ (effectOf ⟨code, arg1, arg2, arg3, data⟩) s.begin)

/-- READ_IDENT (R175). -/
def execReadIdent (s : State) : Result :=
  .next (serve (Request.plain 1 0 0 0) readIdentEffect s.begin)

/-- READ_STATUS (R176). -/
def execReadStatus (s : State) : Result :=
  .next (serve (Request.plain 2 0 0 0) readStatusEffect s.begin)

/-- READ_SECTION (R177). -/
def execReadSection (sec : Word) (s : State) : Result :=
  .next (serve (Request.plain 3 sec 0 0) (onSection sec readSectionEffect) s.begin)

/-- READ_TABLE (R167). -/
def execReadTable (table offset count : Word) (s : State) : Result :=
  .next (serve (Request.plain 4 table offset count) (onTable table (readTableEffect offset count)) s.begin)

/-- FETCH_RECORD (R155). -/
def execFetchRecord (s : State) : Result :=
  .next (serve (Request.plain 5 0 0 0) fetchRecordEffect s.begin)

/-- DISCARD_RECORD (R156). -/
def execDiscardRecord (seq : Word) (s : State) : Result :=
  .next (serve (Request.plain 6 seq 0 0) (discardRecordEffect seq) s.begin)

/-- RUN (R79). -/
def execRun (s : State) : Result :=
  .next (serve (Request.plain 7 0 0 0) runEffect s.begin)

/-- HALT (R80). -/
def execHalt (s : State) : Result :=
  .next (serve (Request.plain 8 0 0 0) haltEffect s.begin)

/-- RESTART (R178). -/
def execRestart (s : State) : Result :=
  .next (serve (Request.plain 9 0 0 0) restartEffect s.begin)

/-- ARM_SECTION (R101). -/
def execArmSection (sec : Word) (s : State) : Result :=
  .next (serve (Request.plain 10 sec 0 0) (onSection sec armSectionEffect) s.begin)

/-- DISARM_SECTION (R103). -/
def execDisarmSection (sec : Word) (s : State) : Result :=
  .next (serve (Request.plain 11 sec 0 0) (onSection sec disarmSectionEffect) s.begin)

/-- CLEAR_FAULT (R104). -/
def execClearFault (sec : Word) (s : State) : Result :=
  .next (serve (Request.plain 12 sec 0 0) (onSection sec clearFaultEffect) s.begin)

/-- BEGIN_LOAD (R159). -/
def execBeginLoad (table words : Word) (s : State) : Result :=
  .next (serve (Request.plain 13 table words 0) (onTable table (beginLoadEffect words)) s.begin)

/-- LOAD_WORDS (R160). -/
def execLoadWords (offset count : Word) (data : List Word) (s : State) : Result :=
  .next (serve ⟨14, offset, count, 0, data⟩ (loadWordsEffect offset count data) s.begin)

/-- COMMIT_TABLE (R161 to R163). -/
def execCommitTable (table : Word) (s : State) : Result :=
  .next (serve (Request.plain 15 table 0 0) (commitTableEffect table) s.begin)

/-- DROP_LOAD (R165). -/
def execDropLoad (s : State) : Result :=
  .next (serve (Request.plain 16 0 0 0) dropLoadEffect s.begin)

/-- LOCK_TABLE (R168). -/
def execLockTable (table level : Word) (s : State) : Result :=
  .next (serve (Request.plain 17 table level 0) (onTable table (lockTableEffect level)) s.begin)

/-- UNLOCK_TABLE (R169): `mnt` is the MNT line as it stands when the request is taken; the line is read and
not latched (log 5). -/
def execUnlockTable (table : Word) (mnt : Bool) (s : State) : Result :=
  .next (serve (Request.plain 18 table 0 0) (onTable table unlockTableEffect) { s.begin with mntLine := mnt })

/-- CLEAR_LOAD_FLAGS (R166). -/
def execClearLoadFlags (s : State) : Result :=
  .next (serve (Request.plain 19 0 0 0) clearLoadFlagsEffect s.begin)

/-- SET_ALERT_MASK (R180). -/
def execSetAlertMask (marks : Word) (s : State) : Result :=
  .next (serve (Request.plain 20 marks 0 0) (setAlertMaskEffect marks) s.begin)

/-- CLEAR_ALERTS (R180). -/
def execClearAlerts (marks : Word) (s : State) : Result :=
  .next (serve (Request.plain 21 marks 0 0) (clearAlertsEffect marks) s.begin)

end Sys2Proof.Machine
end

