-- ==== Sys2Proof/Machine/Dispatch.lean ====
section
/-! DEFINITION. One arm per command. -/

namespace Sys2Proof.Machine

def exec (i : Instr) (s : State) : Host.Outcome State Fault Refusal :=
  match i with
  | .sampleFrame f => Sys2Proof.Machine.execSampleFrame f s
  | .discardWithoutTrace frame => Sys2Proof.Machine.execDiscardWithoutTrace frame s
  | .powerOnReset lineAsserted => Sys2Proof.Machine.execPowerOnReset lineAsserted s
  | .resetLineRelease => Sys2Proof.Machine.execResetLineRelease s
  | .silenceExpiry => Sys2Proof.Machine.execSilenceExpiry s
  | .windowRefillDone f => Sys2Proof.Machine.execWindowRefillDone f s
  | .lockGained f => Sys2Proof.Machine.execLockGained f s
  | .badCrossingUnlock f => Sys2Proof.Machine.execBadCrossingUnlock f s
  | .quietUnlock f => Sys2Proof.Machine.execQuietUnlock f s
  | .referenceBecameTracking f => Sys2Proof.Machine.execReferenceBecameTracking f s
  | .forcedReturn f => Sys2Proof.Machine.execForcedReturn f s
  | .sagStart f => Sys2Proof.Machine.execSagStart f s
  | .sagEnd f => Sys2Proof.Machine.execSagEnd f s
  | .feedbackAccepted f => Sys2Proof.Machine.execFeedbackAccepted f s
  | .openConfirmed f => Sys2Proof.Machine.execOpenConfirmed f s
  | .openStuck f => Sys2Proof.Machine.execOpenStuck f s
  | .closeConfirmed f => Sys2Proof.Machine.execCloseConfirmed f s
  | .closeStuck f => Sys2Proof.Machine.execCloseStuck f s
  | .overcurrent f => Sys2Proof.Machine.execOvercurrent f s
  | .armApplied f => Sys2Proof.Machine.execArmApplied f s
  | .disarmApplied f => Sys2Proof.Machine.execDisarmApplied f s
  | .automaticRearm f => Sys2Proof.Machine.execAutomaticRearm f s
  | .deferredApplication o => Sys2Proof.Machine.execDeferredApplication o s
  | .answerPart o => Sys2Proof.Machine.execAnswerPart o s
  | .alertFrame o => Sys2Proof.Machine.execAlertFrame o s
  | .unknownRequest code arg1 arg2 arg3 data => Sys2Proof.Machine.execUnknownRequest code arg1 arg2 arg3 data s
  | .readIdent => Sys2Proof.Machine.execReadIdent s
  | .readStatus => Sys2Proof.Machine.execReadStatus s
  | .readSection sec => Sys2Proof.Machine.execReadSection sec s
  | .readTable table offset count => Sys2Proof.Machine.execReadTable table offset count s
  | .fetchRecord => Sys2Proof.Machine.execFetchRecord s
  | .discardRecord seq => Sys2Proof.Machine.execDiscardRecord seq s
  | .run => Sys2Proof.Machine.execRun s
  | .halt => Sys2Proof.Machine.execHalt s
  | .restart => Sys2Proof.Machine.execRestart s
  | .armSection sec => Sys2Proof.Machine.execArmSection sec s
  | .disarmSection sec => Sys2Proof.Machine.execDisarmSection sec s
  | .clearFault sec => Sys2Proof.Machine.execClearFault sec s
  | .beginLoad table words => Sys2Proof.Machine.execBeginLoad table words s
  | .loadWords offset count data => Sys2Proof.Machine.execLoadWords offset count data s
  | .commitTable table => Sys2Proof.Machine.execCommitTable table s
  | .dropLoad => Sys2Proof.Machine.execDropLoad s
  | .lockTable table level => Sys2Proof.Machine.execLockTable table level s
  | .unlockTable table mnt => Sys2Proof.Machine.execUnlockTable table mnt s
  | .clearLoadFlags => Sys2Proof.Machine.execClearLoadFlags s
  | .setAlertMask marks => Sys2Proof.Machine.execSetAlertMask marks s
  | .clearAlerts marks => Sys2Proof.Machine.execClearAlerts marks s

end Sys2Proof.Machine
end

