-- ==== Sys2Proof/WellFormed.lean ====
section
/-! DEFINITION. Which commands have operands that the frames of the ring can carry. -/

namespace Sys2Proof

/-- A SAMPLE frame carries exactly 28 codes (11.2). -/
def SampleFrame.wf (f : SampleFrame) : Bool :=
  f.codes.length == Config.channelCount

/-- The SAMPLE frame of an occasion carries exactly 28 codes. -/
def Occasion.wf : Occasion → Bool
  | .sample f => f.wf
  | .silence => true

/-- The operands of a command are such as its frame can carry: 28 codes in a SAMPLE frame, 16 data
words in a MANAGE frame (11.2), a request code that names none of the twenty-one requests for
UNKNOWN_REQUEST (R174), and a frame that fails a check of R1 for DISCARD_WITHOUT_TRACE. -/
def Instr.wf : Instr → Bool
  | .sampleFrame f => f.wf
  | .discardWithoutTrace frame => !Machine.passesChecks frame
  | .powerOnReset _ => true
  | .resetLineRelease => true
  | .silenceExpiry => true
  | .windowRefillDone f => f.wf
  | .lockGained f => f.wf
  | .badCrossingUnlock f => f.wf
  | .quietUnlock f => f.wf
  | .referenceBecameTracking f => f.wf
  | .forcedReturn f => f.wf
  | .sagStart f => f.wf
  | .sagEnd f => f.wf
  | .feedbackAccepted f => f.wf
  | .openConfirmed f => f.wf
  | .openStuck f => f.wf
  | .closeConfirmed f => f.wf
  | .closeStuck f => f.wf
  | .overcurrent f => f.wf
  | .armApplied f => f.wf
  | .disarmApplied f => f.wf
  | .automaticRearm f => f.wf
  | .deferredApplication o => o.wf
  | .answerPart o => o.wf
  | .alertFrame o => o.wf
  | .unknownRequest code _ _ _ data =>
      (code.toNat == 0 || 21 < code.toNat) && data.length == 16
  | .readIdent => true
  | .readStatus => true
  | .readSection _ => true
  | .readTable _ _ _ => true
  | .fetchRecord => true
  | .discardRecord _ => true
  | .run => true
  | .halt => true
  | .restart => true
  | .armSection _ => true
  | .disarmSection _ => true
  | .clearFault _ => true
  | .beginLoad _ _ => true
  | .loadWords _ _ data => data.length == 16
  | .commitTable _ => true
  | .dropLoad => true
  | .lockTable _ _ => true
  | .unlockTable _ _ => true
  | .clearLoadFlags => true
  | .setAlertMask _ => true
  | .clearAlerts _ => true

end Sys2Proof
end

