-- ==== Sys2Proof/Safety.lean ====
section
/-! DEFINITION. The notions that claims about the engine are stated in: the stages of an accepted frame,
what an alert being reported means, the answer to a request, and the laws a state keeps. -/

namespace Sys2Proof.Machine

/-! ### Stages of an accepted frame -/

/-- A frame that passes R1 with the reset line released, and is classified as `c` (R2, R3, R5). -/
def accepted (c : StepClass) (f : SampleFrame) (s : State) : Bool :=
  !s.resetLine && f.wf && classify s.link f.seq == some c

/-- The engine once the frame has been measured (R11 to R17). -/
def measured (c : StepClass) (f : SampleFrame) (s : State) : State := measureFrame c f s.begin

/-- The engine once tracker, store, detector and demand have judged the frame. -/
def judged (c : StepClass) (f : SampleFrame) (s : State) : State :=
  judgeFrame s.previous c (measured c f s)

/-- The engine as the section controller finds it, the episode signal raised in a sag-start frame. -/
def decided (c : StepClass) (f : SampleFrame) (s : State) : State := raiseEpisode (judged c f s)

/-- What section k reads in the frame (R83). -/
def viewOf (c : StepClass) (f : SampleFrame) (s : State) (k : Fin 4) : SectionView :=
  sectionView (decided c f s) k

/-- Section k of a state. -/
def State.sec (s : State) (k : Fin 4) : Section := s.controller.sections.get k

/-- Section k after the updates of the frame that precede its decision (R83). -/
def updatedOf (c : StepClass) (f : SampleFrame) (s : State) (k : Fin 4) : Section :=
  (s.sec k).updated (viewOf c f s k)

/-- The news of the frame for section k. -/
def newsOf (c : StepClass) (f : SampleFrame) (s : State) (k : Fin 4) : ConfirmNews :=
  confirmNews (viewOf c f s k) (s.sec k) (updatedOf c f s k)

/-- Whether a load is PENDING. -/
def Load.isPending : Load → Bool
  | .pending _ _ => true
  | .idle | .opened _ _ => false

/-- The three supply levels of the frame as the detector judges them. -/
def levelsOf (c : StepClass) (f : SampleFrame) (s : State) : Option (Phases Nat) :=
  validLevels (measured c f s).levels

/-- Whether the frame takes a phase-A crossing (R22). -/
def crossingIn (c : StepClass) (f : SampleFrame) (s : State) : Bool :=
  crossingTaken s.previous (measured c f s)

/-- The crossing error of the frame (R23). -/
def errorIn (c : StepClass) (s : State) : Int :=
  crossingError (angle ((s.tracker.live : Int) + ((c.gap + 1) * s.tracker.incLive : Nat)))

/-- The tracker when the frame's slew step is due: live angle tracked, held angle advanced (R31). -/
def beforeSlew (c : StepClass) (f : SampleFrame) (s : State) : Tracker :=
  advanceHeld c.gap (trackLive (crossingIn c f s) c.gap s s.tracker)

/-- The difference Δ of the frame (R31). -/
def deltaOf (c : StepClass) (f : SampleFrame) (s : State) : Int :=
  slewDelta (beforeSlew c f s).live (beforeSlew c f s).held

/-- The settle count after the frame's slew step (R31). -/
def settleOf (c : StepClass) (f : SampleFrame) (s : State) : Nat :=
  if crossingIn c f s then min 16 (s.tracker.settle + 1) else s.tracker.settle

/-- The three conditions of R32 in a frame that began SLEWING. -/
def settlesIn (c : StepClass) (f : SampleFrame) (s : State) : Bool :=
  decide ((deltaOf c f s).natAbs ≤ s.slewRate) && (beforeSlew c f s).lock == .locked
    && decide (s.settleCrossings ≤ settleOf c f s)

/-- The engine once the tracker's first part and the store allocator have worked on the frame, as the
detector finds it (R20, R41, R132). -/
def tracked (c : StepClass) (f : SampleFrame) (s : State) : State :=
  storeWork (trackerFirst s.previous c.gap (measured c f s))

/-- The fast suspension after its update for the frame (R45). -/
def suspendedIn (c : StepClass) (f : SampleFrame) (s : State) : Bool :=
  (suspend c.kind (tracked c f s).tracker.marks.crossingGood s.detector).suspended

/-- The phases whose slow counter reaches slow_qualify in a frame with levels L that began in CLEAR or
SUSPECT (R46, R47). -/
def slowQualified (levels : Phases Nat) (s : State) : Phases Bool :=
  Phases.build fun p => decide (s.slowQualify ≤
    slowCount s.slowQualify (levelBelow (levels.get p) s.slowStart) (s.detector.slow.get p))

/-- The phases whose fast counter reaches fast_qualify in a frame that began in CLEAR or SUSPECT (R43,
R44, R47; log 37). -/
def fastQualified (c : StepClass) (f : SampleFrame) (s : State) : Phases Bool :=
  Phases.build fun p => decide (s.fastQualify ≤
    fastCount s.fastQualify (fastVerdict s.previous (suspendedIn c f s) (tracked c f s) p)
      (s.detector.fast.get p))

/-- No event of a higher rank in R84 than the sag start, the sag end and the reference becoming TRACKING
reaches a section whose bypass is commanded open: no bridge fault, driver ready, no open that times
out, no uncommanded close, no overcurrent. -/
def undisturbed (c : StepClass) (f : SampleFrame) (s : State) (k : Fin 4) : Bool :=
  (viewOf c f s k).status.ready && !(viewOf c f s k).status.bridgeFault
    && !(newsOf c f s k).openTimesOut
    && !((newsOf c f s k).turnedClosed && (s.sec k).confirm != .opening)
    && decide ((updatedOf c f s k).overCount < 2)

/-- Whether the episode-in-progress signal is lowered at the end of the controller's work on the frame
(R107). -/
def endsIn (c : StepClass) (f : SampleFrame) (s : State) : Bool := (controllerWork (judged c f s)).ended

/-- The engine when the out slot of the frame is filled (R126). -/
def atSlot (c : StepClass) (f : SampleFrame) (s : State) : State := beforeSlot (judged c f s)

/-- The engine when the out slot after a safe DRIVE frame is filled (R127, R181). -/
def atSilentSlot (s : State) : State :=
  let t := lowerAndApply (blocksSilenced s.begin)
  t.send (safeDrive t).words

/-- The forced return of a frame that began SLEWING and does not settle (R33). -/
def forcedIn (c : StepClass) (f : SampleFrame) (s : State) : Bool :=
  s.tracker.ref == .slewing && !settlesIn c f s
    && decide (s.returnLimit * 64 ≤ min 16320 (s.tracker.returnTimer + c.gap + 1))

/-- Whether section k's transition from `x` to `y` in a frame has an outcome, and which (R108): `none`
also stands for NOT_ARMED, which ranks lowest and so changes no entry (R151). A section that stays in FAULT
hands none, also when its close times out there (log 13). -/
def frameOutcome (sagStart : Bool) (x y : Section) : Option EntryOutcome :=
  match y.state with
  | .fault => if x.state = .fault then none else some .fault
  | .watching => if x.state = .watching then none else some .watched
  | .injecting =>
    if x.state = .injecting ∧ x.service = y.service then none
    else some (if y.service = .full then .full else .degraded)
  | .bypassed | .releasing =>
    match x.state, y.lastLeave with
    | .out, _ | .bypassed, _ | .releasing, _ | .fault, _ => none
    | _, .store => some .releasedStore
    | _, .notReady => some .fault
    | _, .overcurrent => some .overcurrent
    | _, .request => if sagStart then none else some .releasedRequest
    | _, _ => none
  | .out | .armed | .returningSlewing | .returningClosing => none

/-- An entry's worst outcome once an outcome, if any, has been handed: it is replaced by one that ranks
strictly higher (R151). -/
def worstAfter (kept : EntryOutcome) (handed : Option EntryOutcome) : EntryOutcome :=
  match handed with
  | some o => if kept.rank < o.rank then o else kept
  | none => kept

/-- No load is PENDING, so that no table is applied at the end of the frame (R164). -/
def noPending (s : State) : Bool := !s.loader.load.isPending

/-! ### Alerts and answers -/

/-- The causes in code order (11.4). -/
def causes : List Cause :=
  [.none, .store, .notReady, .halt, .request, .overcurrent, .linkSilent, .restart, .table, .bridge,
   .openStuck, .closeStuck, .openUncommanded, .closeUncommanded]

/-- The words are an ALERT frame of a kind with a payload (11.2). -/
def isAlert (k : AlertKind) (p : Payload) (ws : List Word) : Bool :=
  headerKind (ws.getD 0 0) == 5 && ws.getD 1 0 == Word.ofNat k.number && ws.getD 2 0 == p.first
    && ws.getD 3 0 == p.second

/-- An alert raised by a command is reported: its flag stands with the payload, or its ALERT frame has
left on the Out port (R179, R181). -/
def State.reports (t : State) (k : AlertKind) (p : Payload) : Bool :=
  decide (t.management.alerts.get k = some p) || t.outPort.any (isAlert k p)

/-- An alert of a section with a cause is reported for section k or for a higher-numbered one, whose
payload then stands for all of them (R108, R179). -/
def State.reportsFrom (t : State) (kind : AlertKind) (k : Fin 4) (c : Cause) : Bool :=
  t.reports kind (causeAlert kind k c).2 ||
    four.any fun j => decide (k < j) && causes.any fun d => t.reports kind (causeAlert kind j d).2

/-- An alert of a kind could take an out slot: its flag is set and it is enabled (R181). -/
def State.offers (u : State) (k : AlertKind) : Bool :=
  u.management.mask.get k && (u.management.alerts.get k).isSome

/-- What an out slot makes of the engine `u` (R171, R173, R181): the first in priority of the set and
enabled alerts goes when it is of kinds 0..3 or no answer part waits, else the first part, else nothing;
nothing but the Out port, the sent alert's flag and the slot's items changes. -/
def slotChoice (u t : State) : Prop :=
  (∀ (k : AlertKind) (p : Payload), u.management.alerts.get k = some p → u.offers k = true →
    (∀ j : AlertKind, u.offers j = true → k.number ≤ j.number) →
    k.number < 4 ∨ u.management.queue = [] →
    t = { u with
      outPort := u.outPort ++ [alertWords u k p]
      management := { u.management with alerts := u.management.alerts.set k none } }) ∧
  (∀ (part : AnswerPart) (rest : List AnswerPart), u.management.queue = part :: rest →
    (∀ j : AlertKind, u.offers j = true → 4 ≤ j.number) →
    t = { u with
      outPort := u.outPort ++ [answerWords rest.isEmpty u.management.snapshot part]
      management := { u.management with
        queue := rest
        slot := if rest = [] then none else u.management.slot
        snapshot := if rest = [] then none else u.management.snapshot } }) ∧
  ((∀ j : AlertKind, u.offers j = false) → u.management.queue = [] → t = u)

/-- The engine in which a request has been accepted into the slot and answered in one part, and nothing
else has changed; what the command before it sent has left the Out port (R171, R173, log 3). -/
def State.taken (s : State) (q : Request) (r : ResultCode) (ws : List Word) : State :=
  { s with
    outPort := []
    management := { s.management with slot := some q, queue := [⟨q.code, r, 1, 1, .words ws⟩] } }

/-- A MANAGE frame is accepted: reset line released, request slot empty (R5, R171). -/
def slotOpen (s : State) : Bool := !s.resetLine && s.management.slot.isNone

/-- The commands that are MANAGE frames. -/
def isRequest : Instr → Bool
  | .unknownRequest _ _ _ _ data => data.length == 16
  | .loadWords _ _ data => data.length == 16
  | .readIdent | .readStatus | .readSection _ | .readTable _ _ _ | .fetchRecord | .discardRecord _
  | .run | .halt | .restart | .armSection _ | .disarmSection _ | .clearFault _ | .beginLoad _ _
  | .commitTable _ | .dropLoad | .lockTable _ _ | .unlockTable _ _ | .clearLoadFlags
  | .setAlertMask _ | .clearAlerts _ => true
  | .sampleFrame _ | .discardWithoutTrace _ | .powerOnReset _ | .resetLineRelease | .silenceExpiry
  | .windowRefillDone _ | .lockGained _ | .badCrossingUnlock _ | .quietUnlock _
  | .referenceBecameTracking _ | .forcedReturn _ | .sagStart _ | .sagEnd _ | .feedbackAccepted _
  | .openConfirmed _ | .openStuck _ | .closeConfirmed _ | .closeStuck _ | .overcurrent _
  | .armApplied _ | .disarmApplied _ | .automaticRearm _ | .deferredApplication _ | .answerPart _
  | .alertFrame _ => false

/-- The two commands of the reset line itself. -/
def isResetCommand : Instr → Bool
  | .powerOnReset _ | .resetLineRelease => true
  | _ => false

/-- The MNT pin once a command has arrived: UNLOCK_TABLE carries it, no other command does (log 5). -/
def mntAfter (c : Instr) (mnt : Bool) : Bool :=
  match c with
  | .unlockTable _ line => line
  | _ => mnt

/-- Commands that may lower the lock level of a table from FIXED, in an engine whose MNT pin stands at
`mnt`: a power-on reset, UNLOCK_TABLE of the table under MNT, and that request as raw words or as a
request code (R169, log 7). -/
def mayUnfix (c : Instr) (mnt : Bool) (table : TableId) : Bool :=
  match c with
  | .powerOnReset _ => true
  | .unlockTable w line => line && w.toNat == table.number
  | .unknownRequest code arg1 _ _ _ => mnt && code.toNat == 18 && arg1.toNat == table.number
  | .discardWithoutTrace frame =>
      mnt && (requestOfWords frame).code.toNat == 18
        && (requestOfWords frame).arg1.toNat == table.number
  | _ => false

/-! ### Curve images (R62, R63) -/

/-- The words of a curve in walk order: step_count, final_level_pm, then each step's until and
level_pm (R62, 11.3). -/
def Curve.words (c : Curve) : List Word :=
  Word.ofNat c.steps.length :: Word.ofNat c.final ::
    c.steps.flatMap fun st => [Word.ofNat st.1, Word.ofNat st.2]

/-- The Curve Table image of some curves (R62, 11.3). -/
def curveImage (cs : List Curve) : List Word := Word.ofNat cs.length :: cs.flatMap Curve.words

/-- One to eight curves of one to eight steps, each as R63 asks. -/
def curvesAllowed (cs : List Curve) : Prop :=
  1 ≤ cs.length ∧ cs.length ≤ 8 ∧ ∀ c ∈ cs,
    1 ≤ c.steps.length ∧ c.steps.length ≤ 8 ∧ c.final ≤ 1000 ∧
    (∀ st ∈ c.steps, 1 ≤ st.1 ∧ st.1 ≤ 65535 ∧ st.2 ≤ 1000 ∧ st.2 ≤ c.final) ∧
    c.steps.Pairwise fun a b => a.1 < b.1 ∧ a.2 ≤ b.2

/-! ### Laws of a state -/

/-- A level window holds at most 64 values, and S is the sum of their squares (R14). -/
def Window.lawful (w : Window) : Bool :=
  decide (w.values.length ≤ Config.windowSize) && w.sumSq == (w.values.map square).sum

/-- Every one of the fifteen windows is lawful (R14). -/
def windowsLawful (s : State) : Bool :=
  s.front.supplyWin.toList.all Window.lawful
    && s.front.loadWin.toList.all fun p => p.toList.all Window.lawful

/-- Every index of a staging buffer lies below `n`. -/
def stagingBelow (n : Nat) (m : Staging) : Bool := m.all fun c => decide (c.1 < n)

/-- The staging buffer has its canonical form, and holds no written word at an index at or above the
opened word count, which is at most 256; it is empty in IDLE and complete in PENDING (R158, 09 section
9.1). -/
def loaderLawful (s : State) : Bool :=
  stagingRising s.loader.staging &&
    match s.loader.load with
    | .idle => s.loader.staging.isEmpty
    | .opened t n => wordsInRange t n && stagingBelow n s.loader.staging
    | .pending t n =>
        wordsInRange t n && stagingBelow n s.loader.staging && stagingComplete n s.loader.staging

/-- From each record to the next newer one the sequence number increases by exactly one modulo 65536,
and the next sequence number follows the newest (R147). -/
def consecutive (next : Word) : List Record → Bool
  | [] => true
  | [r] => r.seq + 1 == next
  | r :: q :: rest => q.seq == r.seq + 1 && consecutive next (q :: rest)

/-- The record list holds at most 32 records with consecutive sequence numbers (R147). -/
def recordsLawful (s : State) : Bool :=
  decide (s.records.list.length ≤ Config.recordCapacity) && consecutive s.records.nextSeq s.records.list

/-- Every record but the newest is CLOSED, and the newest is OPEN exactly while an episode is in
progress (R148). -/
def openExactlyInEpisode (s : State) : Bool :=
  s.records.list.dropLast.all (fun r => !r.isOpen)
    && (openRecord s.records.list).isSome == s.controller.episode

/-- While the run state is HALTED no section is ARMED, WATCHING, INJECTING or RETURNING (R80). -/
def haltedLawful (s : State) : Bool :=
  s.controller.run == .running ||
    s.controller.sections.toList.all fun x => !x.state.active || x.state == .releasing

/-- While the engine is not configured every section is OUT (R78). -/
def unconfiguredLawful (s : State) : Bool :=
  s.configured || s.controller.sections.toList.all fun x => x.state == .out

/-- The slot is occupied exactly while the answer queue holds a part, and the queue holds at most two
(R171). -/
def slotLawful (s : State) : Bool :=
  s.management.slot.isSome == !s.management.queue.isEmpty && decide (s.management.queue.length ≤ 2)

/-- A section state that only an episode has: WATCHING, INJECTING or RETURNING. (RELEASING may outlast
its episode after a restart, R81.) -/
def SecState.inEpisodeOnly : SecState → Bool
  | .watching | .injecting | .returningSlewing | .returningClosing => true
  | .out | .bypassed | .armed | .releasing | .fault => false

/-- While the episode signal is down the detector is CLEAR or SUSPECT, no section is WATCHING, INJECTING
or RETURNING, and every service level is FULL (R94, R107). -/
def episodeLawful (s : State) : Bool :=
  s.controller.episode ||
    (!s.detector.inSag && s.controller.sections.toList.all fun x =>
      !x.state.inEpisodeOnly && x.service == .full)

/-- The table image, if any, has valid content (R162). -/
def tableContentLawful (s : State) (t : TableId) : Bool :=
  match s.image t with
  | some image => contentValid t image
  | none => true

/-- Every curve number that a valid Section Table names lies below the curve_count of a valid Curve
Table (R65, R77). -/
def curveLaw (s : State) : Bool :=
  match s.image .sections, s.image .curves with
  | some sections, some curves => curvesNamedBelow (curveCount curves) sections
  | _, _ => true

/-- A PENDING image has passed the content and cross-table tests against the tables in use (R162). -/
def pendingImageLawful (s : State) : Bool :=
  match s.loader.load with
  | .pending t n =>
    contentValid t (stagingImage n s.loader.staging) && crossValid s t (stagingImage n s.loader.staging)
  | .idle | .opened _ _ => true

/-- The tables in use and a PENDING image are lawful (R65, R77, R162). -/
def tablesLawful (s : State) : Bool :=
  tableContentLawful s .supply && tableContentLawful s .sections && tableContentLawful s .curves
    && tableContentLawful s .store && tableContentLawful s .reference && curveLaw s
    && pendingImageLawful s

/-- What the allocator holds is what its table in use gives (R130, R146). -/
def storeLawful (s : State) : Bool :=
  decide (s.store.levels = (s.image .store).map deriveLevels)

/-- The published ranges: both angles below 49152, F within 0..1000, each reference within its U_eff
(00 section 4.4, R117, R133). -/
def rangesLawful (s : State) : Bool :=
  decide (s.tracker.live < Config.cycle) && decide (s.tracker.held < Config.cycle)
    && decide (s.store.level ≤ 1000)
    && s.injection.toList.all fun j => j.refs.toList.all fun u => decide (u.natAbs ≤ j.uEff)

end Sys2Proof.Machine
end

