-- ==== Sys2Proof/Certificates/Slice0/Obligations.lean ====
section
/-! DEFINITION. The statements about the engine. A frame's stages (`measured`, `judged`, `viewOf` ...) and
the laws of a state are those of Sys2Proof/Safety.lean. -/

open Sys2Proof Sys2Proof.Machine

/-! ### The block and its queue -/

/-- A step takes the front command; an empty queue idles (log 1). -/
def Obligations.StepRunsFrontCommand : Prop :=
  (∀ (c : Instr) (rest : List Instr) (s : State),
    step { s with pending := c :: rest } = exec c { s with pending := rest }) ∧
  ∀ s : State, s.pending = [] → step s = .next s

/-- Power-on reset. The values of every block that the spec gives (R5, R18, R39, R61, R76, R110, R122, R146,
R157, R170, R183); the gap count, the lines and the empty queue are the model's choice (log 6). The
laws that every step keeps hold of them. The reset line (R5): a power-on reset puts every block at these
values, a release only releases the line, and every other command under an asserted line changes
nothing but the model's Out port and MNT pin (log 3, log 5). -/
def Obligations.PowerOnReset : Prop :=
  (State.reset.link = ⟨.unseen, 0, 0, none⟩ ∧
   (State.reset.front.held = none ∧ State.reset.front.published = none ∧
     (∀ k : Fin 4, State.reset.front.status.get k = ⟨.closed, false, false⟩) ∧
     (∀ p : Phase, State.reset.front.supplyWin.get p = ⟨[], 0⟩) ∧
     ∀ (k : Fin 4) (p : Phase), (State.reset.front.loadWin.get k).get p = ⟨[], 0⟩) ∧
   State.reset.tracker = ⟨0, 384, .unlocked, 0, 0, 0, 0, 384, .tracking, 0, 0,
     ⟨false, false, false, 0, false, false⟩⟩ ∧
   (State.reset.detector.state = .clear ∧ State.reset.detector.fast = ⟨0, 0, 0⟩ ∧
     State.reset.detector.slow = ⟨0, 0, 0⟩ ∧ State.reset.detector.recovery = 0 ∧
     State.reset.detector.suspended = false ∧ State.reset.detector.trigger = none ∧
     State.reset.detector.involved = ⟨false, false, false⟩ ∧ State.reset.detector.elapsed = 0 ∧
     State.reset.detector.sagDuration = none ∧ State.reset.detector.phaseJump = none) ∧
   (∀ k : Fin 4, State.reset.demand.get k = ⟨0, false, 0⟩) ∧
   (State.reset.controller.run = .halted ∧ State.reset.controller.episode = false ∧
     ∀ k : Fin 4, (State.reset.sec k).state = .out ∧ (State.reset.sec k).service = .full ∧
       (State.reset.sec k).feedback = .closed ∧ (State.reset.sec k).filterCount = 0 ∧
       (State.reset.sec k).confirm = .none ∧ (State.reset.sec k).closeSeen = false ∧
       (State.reset.sec k).faultCause = none ∧ (State.reset.sec k).pendingReq = .none ∧
       (State.reset.sec k).eligible = false ∧ (State.reset.sec k).hold = false ∧
       (State.reset.sec k).overCount = 0 ∧ (State.reset.sec k).lastLeave = .none ∧
       (State.reset.sec k).lastArm = .none) ∧
   (∀ k : Fin 4, State.reset.injection.get k = ⟨⟨0, 0, 0⟩, 0, ⟨.none, .none, .none⟩, false, 0⟩) ∧
   (State.reset.store.level = 0 ∧ State.reset.store.levels = none ∧ State.reset.store.lowArmed = false ∧
     ∀ c : Fin 4, State.reset.store.band.get c = .release ∧ State.reset.store.ready.get c = false) ∧
   State.reset.records = ⟨[], 0⟩ ∧
   (State.reset.loader.load = .idle ∧ State.reset.loader.staging = [] ∧
     State.reset.loader.sticky = ⟨false, false, false, false⟩ ∧
     ∀ t : TableId, State.reset.loader.tables.get t = none ∧ State.reset.loader.locks.get t = .unlocked) ∧
   (State.reset.management.slot = none ∧ State.reset.management.queue = [] ∧
     State.reset.management.snapshot = none ∧
     ∀ a : AlertKind, State.reset.management.alerts.get a = none ∧
       State.reset.management.mask.get a = true)) ∧
  (windowsLawful State.reset = true ∧ loaderLawful State.reset = true ∧
   recordsLawful State.reset = true ∧ openExactlyInEpisode State.reset = true ∧
   haltedLawful State.reset = true ∧ unconfiguredLawful State.reset = true ∧
   slotLawful State.reset = true ∧ episodeLawful State.reset = true ∧
   tablesLawful State.reset = true ∧ storeLawful State.reset = true ∧
   rangesLawful State.reset = true) ∧
  (∀ (line : Bool) (s : State), exec (.powerOnReset line) s = .next
    { State.reset with pending := s.pending, mntLine := s.mntLine, resetLine := line }) ∧
  (∀ s : State, exec .resetLineRelease s = .next { s with outPort := [], resetLine := false }) ∧
  ∀ (c : Instr) (s : State), s.resetLine = true → isResetCommand c = false →
    exec c s = .next { s with outPort := [], mntLine := mntAfter c s.mntLine }

/-- Each event row is the arrival in whose processing the event comes about (log 2). -/
def Obligations.EventRowsProcessTheirArrival : Prop :=
  (∀ (f : SampleFrame) (s : State),
    ∀ c ∈ [Instr.windowRefillDone f, .lockGained f, .badCrossingUnlock f, .quietUnlock f,
      .referenceBecameTracking f, .forcedReturn f, .sagStart f, .sagEnd f, .feedbackAccepted f,
      .openConfirmed f, .openStuck f, .closeConfirmed f, .closeStuck f, .overcurrent f, .armApplied f,
      .disarmApplied f, .automaticRearm f, .deferredApplication (.sample f), .answerPart (.sample f),
      .alertFrame (.sample f)], exec c s = exec (.sampleFrame f) s) ∧
  ∀ s : State, ∀ c ∈ [Instr.deferredApplication .silence, .answerPart .silence, .alertFrame .silence],
    exec c s = exec .silenceExpiry s

/-! ### Frames as words (R1, R185, 11.2) -/

/-- The checks of R1: kind SAMPLE with 32 words or MANAGE with 22, and a last word that is the CRC of
the words before it; a frame that fails one is discarded without trace (R1, R185). -/
def Obligations.FailingFramesAreDiscarded : Prop :=
  (∀ frame : List Word, passesChecks frame = true ↔
    ((frame.length = 32 ∧ (frame.headD 0).toNat % 16 = 1) ∨
      (frame.length = 22 ∧ (frame.headD 0).toNat % 16 = 2)) ∧
    frame.getLast? = some (crc frame.dropLast)) ∧
  ∀ (frame : List Word) (s : State), passesChecks frame = false →
    exec (.discardWithoutTrace frame) s = .next { s with outPort := [] }

/-- Frames as words. A SAMPLE frame's words carry all of its content and a MANAGE frame's all of its
request, arriving words act as the frame they are (log 7), and request codes 1..21 stand for the requests in the
order of the request table with the arguments where 11.2 places them. -/
def Obligations.FrameWordsRoundTrip : Prop :=
  (∀ f : SampleFrame, f.wf = true →
    passesChecks (wordsOfSample f) = true ∧ sampleOfWords (wordsOfSample f) = f ∧
    ∀ s : State, exec (.discardWithoutTrace (wordsOfSample f)) s = exec (.sampleFrame f) s) ∧
  (∀ r : Request, r.data.length = 16 →
    passesChecks (wordsOfRequest r) = true ∧ requestOfWords (wordsOfRequest r) = r ∧
    ∀ s : State, exec (.discardWithoutTrace (wordsOfRequest r)) s =
      exec (.unknownRequest r.code r.arg1 r.arg2 r.arg3 r.data) s) ∧
  ∀ (a b c : Word) (d : List Word) (s : State),
    exec (.unknownRequest 1 0 0 0 (List.replicate 16 0)) s = exec .readIdent s ∧
    exec (.unknownRequest 2 0 0 0 (List.replicate 16 0)) s = exec .readStatus s ∧
    exec (.unknownRequest 3 a 0 0 (List.replicate 16 0)) s = exec (.readSection a) s ∧
    exec (.unknownRequest 4 a b c (List.replicate 16 0)) s = exec (.readTable a b c) s ∧
    exec (.unknownRequest 5 0 0 0 (List.replicate 16 0)) s = exec .fetchRecord s ∧
    exec (.unknownRequest 6 a 0 0 (List.replicate 16 0)) s = exec (.discardRecord a) s ∧
    exec (.unknownRequest 7 0 0 0 (List.replicate 16 0)) s = exec .run s ∧
    exec (.unknownRequest 8 0 0 0 (List.replicate 16 0)) s = exec .halt s ∧
    exec (.unknownRequest 9 0 0 0 (List.replicate 16 0)) s = exec .restart s ∧
    exec (.unknownRequest 10 a 0 0 (List.replicate 16 0)) s = exec (.armSection a) s ∧
    exec (.unknownRequest 11 a 0 0 (List.replicate 16 0)) s = exec (.disarmSection a) s ∧
    exec (.unknownRequest 12 a 0 0 (List.replicate 16 0)) s = exec (.clearFault a) s ∧
    exec (.unknownRequest 13 a b 0 (List.replicate 16 0)) s = exec (.beginLoad a b) s ∧
    exec (.unknownRequest 14 a b 0 d) s = exec (.loadWords a b d) s ∧
    exec (.unknownRequest 15 a 0 0 (List.replicate 16 0)) s = exec (.commitTable a) s ∧
    exec (.unknownRequest 16 0 0 0 (List.replicate 16 0)) s = exec .dropLoad s ∧
    exec (.unknownRequest 17 a b 0 (List.replicate 16 0)) s = exec (.lockTable a b) s ∧
    exec (.unknownRequest 18 a 0 0 (List.replicate 16 0)) s = exec (.unlockTable a s.mntLine) s ∧
    exec (.unknownRequest 19 0 0 0 (List.replicate 16 0)) s = exec .clearLoadFlags s ∧
    exec (.unknownRequest 20 a 0 0 (List.replicate 16 0)) s = exec (.setAlertMask a) s ∧
    exec (.unknownRequest 21 a 0 0 (List.replicate 16 0)) s = exec (.clearAlerts a) s

/-! ### An accepted frame: link interface and front end -/

/-- The classes of R2 and R3, the discarding of a duplicate, and what the link interface holds after an
accepted frame (R2, R3, R4, R6). -/
def Obligations.FrameClassAndLink : Prop :=
  (∀ (l : Link) (seq : Word), l.meas ≠ .running → classify l seq = some ⟨.brk, 0⟩) ∧
  (∀ (l : Link) (step : Nat), l.meas = .running → step < 65536 →
    classify l (l.lastSeq + Word.ofNat step) =
      if step = 0 then none else if step = 1 then some ⟨.normal, 0⟩
      else if step ≤ 4 then some ⟨.shortGap, step - 1⟩ else some ⟨.brk, 0⟩) ∧
  (∀ (f : SampleFrame) (s : State), s.link.meas = .running → f.seq = s.link.lastSeq →
    exec (.sampleFrame f) s = .next { s with outPort := [] }) ∧
  ∀ (c : StepClass) (f : SampleFrame) (s : State), accepted c f s = true →
    ∃ t, exec (.sampleFrame f) s = .next t ∧
      t.link = { meas := .running, lastSeq := f.seq
                 counter := s.link.counter + BitVec.ofNat 32 (c.gap + 1)
                 timer := some s.silenceLimit }

/-- Break and refill (R2, R3, R15, R16): a break frame empties the windows before its own values enter and
raises MEASUREMENT_BREAK with the gap seen; in any other frame a window's level is valid exactly when
the window holds 16 values, gap frames included (log 35). -/
def Obligations.BreakAndWindowRefill : Prop :=
  ∀ (c : StepClass) (f : SampleFrame) (s : State), accepted c f s = true →
    (c.kind = .brk → ∃ t, exec (.sampleFrame f) s = .next t ∧
      (∀ p : Phase, (t.front.supplyWin.get p).values.length = 1 ∧ t.levels.supply.get p = none) ∧
      (∀ (k : Fin 4) (p : Phase), ((t.front.loadWin.get k).get p).values.length = 1 ∧
        (t.levels.load.get k).get p = none) ∧
      t.reports .measurementBreak ⟨f.seq - s.link.lastSeq - 1, 0⟩ = true) ∧
    (c.kind ≠ .brk → s.front.held.isSome = true →
      ∃ t, exec (.windowRefillDone f) s = .next t ∧
      (∀ p : Phase, (t.levels.supply.get p).isSome = true ↔
        16 ≤ (s.front.supplyWin.get p).values.length + c.gap + 1) ∧
      ∀ (k : Fin 4) (p : Phase), ((t.levels.load.get k).get p).isSome = true ↔
        16 ≤ ((s.front.loadWin.get k).get p).values.length + c.gap + 1)

/-- Calibration, status bits, gap filling and windows (R11 to R14): in every accepted frame the 28 values
are the codes less their offsets times their gains over 16384, rounded to nearest with ties away from
zero and saturated, and they and the status bits replace the held ones; in a frame that is no break,
each window takes one copy of its held value for each gap frame and then the frame's own value, keeping
the newest 64. -/
def Obligations.CalibratedSetAndWindows : Prop :=
  ∀ (c : StepClass) (f : SampleFrame) (s : State), accepted c f s = true →
    ∃ t, exec (.sampleFrame f) s = .next t ∧ t.front.held = some t.values ∧ t.values.length = 28 ∧
      (∀ k : Fin 4, t.front.status.get k =
        ⟨if f.status.getLsbD (4 * k.val) then .opened else .closed, f.status.getLsbD (4 * k.val + 1),
          f.status.getLsbD (4 * k.val + 2)⟩) ∧
      (∀ ch : Fin 28,
        let y : Int := ((f.codes.getD ch.val 0).toInt - s.offset ch.val) * s.gain ch.val
        let z : Int := t.values.getD ch.val 0
        (16384 * 32767 ≤ y → z = 32767) ∧ (y ≤ -(16384 * 32767) → z = -32767) ∧
        (-(16384 * 32767) < y → y < 16384 * 32767 →
          (16384 * z - y).natAbs ≤ 8192 ∧
            ((16384 * z - y).natAbs = 8192 → y.natAbs < (16384 * z).natAbs))) ∧
      ∀ held : List Int, s.front.held = some held → c.kind ≠ .brk → windowsLawful s = true →
        (∀ p : Phase,
          let all := (s.front.supplyWin.get p).values
            ++ List.replicate c.gap (channel held (supplyChannel p))
            ++ [channel t.values (supplyChannel p)]
          (t.front.supplyWin.get p).values = all.drop (all.length - 64)) ∧
        ∀ (k : Fin 4) (p : Phase),
          let all := ((s.front.loadWin.get k).get p).values
            ++ List.replicate c.gap (channel held (loadChannel k p))
            ++ [channel t.values (loadChannel k p)]
          ((t.front.loadWin.get k).get p).values = all.drop (all.length - 64)

/-- The level of a window (R15): the largest integer whose square does not exceed floor(S / 32) for 64
values and floor(2 S / n) for 16 to 63, none for fewer; the fifteen levels published with a frame are
those of its windows. -/
def Obligations.LevelIsLargestRoot : Prop :=
  (∀ w : Window, w.values.length < 16 → w.level = none) ∧
  (∀ w : Window, 16 ≤ w.values.length → w.values.length ≤ 64 → ∃ l, w.level = some l ∧
    l * l ≤ (if w.values.length = 64 then w.sumSq / 32 else 2 * w.sumSq / w.values.length) ∧
    (if w.values.length = 64 then w.sumSq / 32 else 2 * w.sumSq / w.values.length)
      < (l + 1) * (l + 1)) ∧
  ∀ (c : StepClass) (f : SampleFrame) (s : State), accepted c f s = true →
    ∃ t, exec (.sampleFrame f) s = .next t ∧
      (∀ p : Phase, t.levels.supply.get p = (t.front.supplyWin.get p).level) ∧
      ∀ (k : Fin 4) (p : Phase), (t.levels.load.get k).get p = ((t.front.loadWin.get k).get p).level

/-- What an accepted frame leaves as it stood: the queue, the lines, the run state, operator holds, locks,
sticky flags, the alert mask; the tables and the load when none is PENDING; the request and its answer,
unless the first part of a waiting answer is sent, which frees the slot and the snapshot with the last
part; and every CLOSED record that the list has room for. -/
def Obligations.SampleFrameLeaves : Prop :=
  ∀ (c : StepClass) (f : SampleFrame) (s : State), accepted c f s = true →
    ∃ t, exec (.sampleFrame f) s = .next t ∧
      t.pending = s.pending ∧ t.resetLine = s.resetLine ∧ t.mntLine = s.mntLine ∧
      t.controller.run = s.controller.run ∧ (∀ k : Fin 4, (t.sec k).hold = (s.sec k).hold) ∧
      t.loader.locks = s.loader.locks ∧ t.loader.sticky = s.loader.sticky ∧
      t.management.mask = s.management.mask ∧ (noPending s = true → t.loader = s.loader) ∧
      ((t.management.slot = s.management.slot ∧ t.management.queue = s.management.queue ∧
          t.management.snapshot = s.management.snapshot) ∨
        (s.management.queue ≠ [] ∧ t.management.queue = s.management.queue.tail ∧
          (s.management.queue.tail = [] →
            t.management.slot = none ∧ t.management.snapshot = none) ∧
          (s.management.queue.tail ≠ [] → t.management.slot = s.management.slot ∧
            t.management.snapshot = s.management.snapshot))) ∧
      ∀ r ∈ s.records.list.tail, r.isOpen = false → r ∈ t.records.list

/-! ### Reference tracker -/

/-- The live and held angles of a frame (R20, R21, R23, R29, R31): the live angle advances by (g + 1)
increments and a crossing corrects angle and increment; the held angle advances while HELD or SLEWING,
and a slewing one then moves toward the live angle by at most slew_rate. While the engine is not
configured the tracker does no work. Which frame is a reference cycle boundary (R35); none is while the
engine is not configured. -/
def Obligations.TrackerAngles : Prop :=
  ∀ (c : StepClass) (f : SampleFrame) (s : State), accepted c f s = true → noPending s = true →
    ∃ t, exec (.sampleFrame f) s = .next t ∧
      (s.configured = false →
        t.tracker = s.tracker ∧ ∀ k : Fin 4, (viewOf c f s k).boundary = false) ∧
      (s.configured = true →
        (t.tracker.marks.boundary = true ↔
          (s.tracker.ref = .tracking ∧
            49152 ≤ s.tracker.live + (c.gap + 1) * s.tracker.incLive) ∨
          (s.tracker.ref = .held ∧
            49152 ≤ s.tracker.held + (c.gap + 1) * s.tracker.incHeld) ∨
          (s.tracker.ref = .slewing ∧
            (49152 : Int) ≤ ((s.tracker.held + (c.gap + 1) * s.tracker.incHeld : Nat) : Int)
              + (if (deltaOf c f s).natAbs ≤ s.slewRate then deltaOf c f s
                else if deltaOf c f s < 0 then -(s.slewRate : Int) else s.slewRate))) ∧
        (crossingIn c f s = false →
          t.tracker.live = (s.tracker.live + (c.gap + 1) * s.tracker.incLive) % 49152 ∧
          t.tracker.incLive = s.tracker.incLive) ∧
        (crossingIn c f s = true →
          (t.tracker.live : Int) =
            (((s.tracker.live + (c.gap + 1) * s.tracker.incLive) % 49152 : Nat)
              - (errorIn c s).tdiv 4) % 49152 ∧
          t.tracker.incLive = (max ((384 : Int) - s.span)
            (min ((384 : Int) + s.span) (s.tracker.incLive - (errorIn c s).tdiv 64))).toNat ∧
          t.tracker.quiet = 0) ∧
        (s.tracker.ref = .held → t.detector.sagEnd = false →
          t.tracker.ref = .held ∧ t.tracker.incHeld = s.tracker.incHeld ∧
          t.tracker.held = (s.tracker.held + (c.gap + 1) * s.tracker.incHeld) % 49152) ∧
        (s.tracker.ref = .slewing → t.detector.sagStart = false →
          t.tracker.incHeld = s.tracker.incHeld ∧
          ((deltaOf c f s).natAbs ≤ s.slewRate →
            (t.tracker.held : Int) = ((beforeSlew c f s).held + deltaOf c f s) % 49152) ∧
          (s.slewRate < (deltaOf c f s).natAbs →
            (t.tracker.held : Int) = ((beforeSlew c f s).held
              + (if deltaOf c f s < 0 then -(s.slewRate : Int) else s.slewRate)) % 49152)))

/-- LOCK_GAINED, BAD_CROSSING_UNLOCK and QUIET_UNLOCK (R24 to R27). -/
def Obligations.LockChanges : Prop :=
  ∀ (c : StepClass) (f : SampleFrame) (s : State), accepted c f s = true → noPending s = true →
    s.configured = true →
    (crossingIn c f s = true → (errorIn c s).natAbs ≤ s.lockWindow → s.tracker.lock = .locking →
      s.lockCount ≤ s.tracker.good + 1 →
      ∃ t, exec (.lockGained f) s = .next t ∧ t.tracker.lock = .locked ∧
        t.tracker.good = s.tracker.good + 1 ∧ t.tracker.bad = 0) ∧
    (crossingIn c f s = true → s.lockWindow < (errorIn c s).natAbs → 1 ≤ s.tracker.bad →
      ∃ t, exec (.badCrossingUnlock f) s = .next t ∧ t.tracker.lock = .unlocked ∧
        t.tracker.good = 0 ∧ t.tracker.bad = 0 ∧
        (s.tracker.lock ≠ .unlocked → t.reports .trackerUnlock ⟨0, 0⟩ = true)) ∧
    (crossingIn c f s = false → s.tracker.quiet < 256 → 256 ≤ s.tracker.quiet + c.gap + 1 →
      ∃ t, exec (.quietUnlock f) s = .next t ∧ t.tracker.lock = .unlocked ∧
        t.tracker.good = 0 ∧ t.tracker.bad = 0 ∧ t.tracker.quiet = 256 ∧
        (s.tracker.lock ≠ .unlocked → t.reports .trackerUnlock ⟨0, 0⟩ = true))

/-- REFERENCE_BECAME_TRACKING and FORCED_RETURN (R32, R33, R96): a frame that begins SLEWING and is no
sag-start frame switches to TRACKING when the slew has caught up, the tracker is LOCKED and enough
crossings have settled; failing that, when the return timer reaches return_limit half-cycles, and the
forced return then marks the OPEN record. Either way a RETURNING/SLEWING section that nothing of higher
rank moves goes to RETURNING/CLOSING with a new CLOSE confirm. -/
def Obligations.ReferenceReturns : Prop :=
  ∀ (c : StepClass) (f : SampleFrame) (s : State), accepted c f s = true → s.configured = true →
    s.tracker.ref = .slewing → (judged c f s).detector.sagStart = false →
    (settlesIn c f s = true →
      ∃ t, exec (.referenceBecameTracking f) s = .next t ∧ t.tracker.ref = .tracking ∧
        ∀ k : Fin 4, (s.sec k).state = .returningSlewing → undisturbed c f s k = true →
          (t.sec k).state = .returningClosing ∧ (t.sec k).confirm = .closing ∧
            (t.sec k).confirmTimer = 0) ∧
    (settlesIn c f s = false → s.returnLimit * 64 ≤ min 16320 (s.tracker.returnTimer + c.gap + 1) →
      ∃ t, exec (.forcedReturn f) s = .next t ∧ t.tracker.ref = .tracking ∧
        t.tracker.refAngle = t.tracker.live ∧
        (∀ r, openRecord s.records.list = some r →
          ∃ r', t.records.list.getLast? = some r' ∧ r'.seq = r.seq ∧ r'.forced = true) ∧
        ∀ k : Fin 4, (s.sec k).state = .returningSlewing → undisturbed c f s k = true →
          (t.sec k).state = .returningClosing ∧ (t.sec k).confirm = .closing ∧
            (t.sec k).confirmTimer = 0)

/-! ### Sag detector and demand evaluator -/

/-- SAG_START (R28, R48, R49, R107, R149): the first frame in CLEAR or SUSPECT in which a counter
qualifies. The detector enters SAG with its trigger and involved set, the reference is HELD, the episode
signal is up, and a new OPEN record stands newest, reported by SAG_START. That a fast counter which R43 both
zeroes and keeps does not qualify is the model's choice (log 37). -/
def Obligations.SagStarts : Prop :=
  ∀ (c : StepClass) (f : SampleFrame) (s : State) (levels : Phases Nat) (trigger : Trigger),
    accepted c f s = true → s.configured = true →
    s.detector.state = .clear ∨ s.detector.state = .suspect → levelsOf c f s = some levels →
    triggerOf (slowQualified levels s) (fastQualified c f s) = some trigger →
    ∃ t, exec (.sagStart f) s = .next t ∧
      t.detector.state = .sag ∧ t.detector.trigger = some trigger ∧
      (∀ p : Phase, t.detector.involved.get p = true ↔
        (slowQualified levels s).get p = true ∨ trigger = ⟨.fast, p⟩) ∧
      t.detector.elapsed = 0 ∧ t.detector.recovery = 0 ∧ t.detector.fast = ⟨0, 0, 0⟩ ∧
      t.detector.sagDuration = none ∧ t.detector.phaseJump = none ∧
      t.tracker.ref = .held ∧
      (s.tracker.ref = .tracking → t.tracker.held = t.tracker.live ∧
        t.tracker.incHeld = t.tracker.incLive) ∧
      t.controller.episode = true ∧ t.records.nextSeq = s.records.nextSeq + 1 ∧
      t.reports .sagStart ⟨s.records.nextSeq, 0⟩ = true ∧
      ∃ r, t.records.list.getLast? = some r ∧ r.isOpen = true ∧ r.seq = s.records.nextSeq ∧
        r.startFrame = t.link.counter ∧ r.trigger = trigger ∧ r.fStart = t.store.level ∧
        r.entries.map Entry.sec = four.filter (fun k => s.inService k)

/-- SAG_END (R30, R52 to R54, R95): the recovery count reaches end_qualify. The detector goes CLEAR with
the sag duration counted to the first frame of the ENDING run (log 9), the reference starts slewing, and
an INJECTING section that nothing of higher rank moves returns, and a WATCHING one is ARMED again. -/
def Obligations.SagEnds : Prop :=
  ∀ (c : StepClass) (f : SampleFrame) (s : State) (levels : Phases Nat),
    accepted c f s = true → s.configured = true → levelsOf c f s = some levels →
    (∀ p : Phase, s.slowEnd * 8192 ≤ levels.get p * 1000) →
    (s.detector.state = .ending ∧ s.endQualify ≤ s.detector.recovery + 1) ∨
      (s.detector.state = .sag ∧ s.endQualify ≤ 1) →
    ∃ t, exec (.sagEnd f) s = .next t ∧
      t.detector.state = .clear ∧ t.detector.recovery = 0 ∧ t.detector.slow = ⟨0, 0, 0⟩ ∧
      t.detector.fast = ⟨0, 0, 0⟩ ∧
      t.detector.elapsed = min 4294967295 (s.detector.elapsed + c.gap + 1) ∧
      t.detector.sagDuration = some (if s.detector.state = .sag then t.detector.elapsed
        else s.detector.endingElapsed) ∧
      t.detector.trigger = s.detector.trigger ∧
      (s.tracker.ref = .held → t.tracker.ref = .slewing ∧ t.tracker.settle = 0 ∧
        t.tracker.returnTimer = 0) ∧
      (∀ k : Fin 4, noPending s = true → (s.sec k).state = .watching →
        (viewOf c f s k).status.ready = true → (viewOf c f s k).status.bridgeFault = false →
        (newsOf c f s k).turnedOpen = false →
        (t.sec k).state = .armed ∧ (t.sec k).eligible = false) ∧
      ∀ k : Fin 4, (s.sec k).state = .injecting → undisturbed c f s k = true →
        (s.strategy k = .restore → (s.sec k).service = .full →
          (t.sec k).state = .returningSlewing) ∧
        (¬(s.strategy k = .restore ∧ (s.sec k).service = .full) →
          (t.sec k).state = .returningClosing ∧ (t.sec k).confirm = .closing ∧
            (t.sec k).confirmTimer = 0)

/-- The detector in every frame: the elapsed frames (R50), the fast suspension (R45), the phase jump (R55), and
the hold in a frame without valid levels (R42). While the engine is not configured it does no work. -/
def Obligations.DetectorTimesAndHolds : Prop :=
  ∀ (c : StepClass) (f : SampleFrame) (s : State), accepted c f s = true → noPending s = true →
    ∃ t, exec (.sampleFrame f) s = .next t ∧
      (s.configured = false → t.detector = s.detector) ∧
      (s.configured = true →
        (t.detector.suspended = true ↔ c.kind = .brk ∨ (s.detector.suspended = true ∧
          ¬(crossingIn c f s = true ∧ (errorIn c s).natAbs ≤ s.lockWindow))) ∧
        (s.detector.state = .sag ∨ s.detector.state = .ending →
          t.detector.elapsed = min 4294967295 (s.detector.elapsed + c.gap + 1) ∧
          (crossingIn c f s = true → t.detector.phaseJump =
            some (if (beforeSlew c f s).held < 24576 then ((beforeSlew c f s).held : Int)
              else (beforeSlew c f s).held - 49152)) ∧
          (crossingIn c f s = false → t.detector.phaseJump = s.detector.phaseJump)) ∧
        (s.detector.state = .clear ∨ s.detector.state = .suspect → t.detector.sagStart = false →
          t.detector.elapsed = s.detector.elapsed ∧ t.detector.phaseJump = s.detector.phaseJump) ∧
        (levelsOf c f s = none →
          t.detector.state = s.detector.state ∧ t.detector.fast = s.detector.fast ∧
          t.detector.slow = s.detector.slow ∧ t.detector.recovery = s.detector.recovery ∧
          t.detector.involved = s.detector.involved ∧ t.detector.trigger = s.detector.trigger ∧
          t.detector.sagDuration = s.detector.sagDuration ∧ t.detector.sagStart = false ∧
          t.detector.sagEnd = false))

/-- The detector in a frame with valid levels (R43, R44, R46 to R48, R51 to R54): its counters, SUSPECT and
CLEAR and when a sag starts; the growth of the involved set in SAG and the entry to ENDING; in ENDING
the recovery count and the return to SAG, in whose frame the set may grow (log 34). That a fast counter is 0
where R43 both zeroes and keeps it is the model's choice (log 37). -/
def Obligations.DetectorJudges : Prop :=
  ∀ (c : StepClass) (f : SampleFrame) (s : State) (levels : Phases Nat), accepted c f s = true →
    noPending s = true → s.configured = true → levelsOf c f s = some levels →
    ∃ t, exec (.sampleFrame f) s = .next t ∧
      let slow (p : Phase) : Nat :=
        if levels.get p * 1000 < s.slowStart * 8192 then
          min s.slowQualify (s.detector.slow.get p + 1) else 0
      let fast (p : Phase) : Nat :=
        if s.fastEnable = false ∨ t.tracker.lock ≠ .locked then 0
        else if t.detector.suspended = true then s.detector.fast.get p
        else match s.levels.supply.get p with
          | none => s.detector.fast.get p
          | some l =>
            let expected := roundDiv (l * sine ((t.tracker.live + p.phi) % 49152)) 8192
            if s.fastDev * 8192 < (expected - t.supplyValue p).natAbs * 1000 then
              min s.fastQualify (s.detector.fast.get p + 1) else 0
      let recovered : Prop := ∀ p : Phase, s.slowEnd * 8192 ≤ levels.get p * 1000
      let joins : Prop := ∀ p : Phase, t.detector.involved.get p = true ↔
        s.detector.involved.get p = true ∨ s.slowQualify ≤ slow p
      (s.detector.state = .clear ∨ s.detector.state = .suspect →
        (t.detector.sagStart = true ↔ ∃ p : Phase, s.slowQualify ≤ slow p ∨ s.fastQualify ≤ fast p) ∧
        (t.detector.sagStart = true → ∀ p : Phase, t.detector.slow.get p = slow p) ∧
        (t.detector.sagStart = false →
          (∀ p : Phase, t.detector.slow.get p = slow p ∧ t.detector.fast.get p = fast p) ∧
          (t.detector.state = .suspect ↔ ∃ p : Phase, 0 < slow p ∨ 0 < fast p) ∧
          (t.detector.state = .clear ↔ ∀ p : Phase, slow p = 0 ∧ fast p = 0) ∧
          t.detector.involved = s.detector.involved ∧ t.detector.trigger = s.detector.trigger ∧
          t.detector.sagDuration = s.detector.sagDuration) ∧
        t.detector.sagEnd = false) ∧
      (s.detector.state = .sag ∨ s.detector.state = .ending →
        t.detector.sagStart = false ∧ t.detector.trigger = s.detector.trigger ∧
        (t.detector.sagEnd = false → t.detector.fast = s.detector.fast ∧
          t.detector.sagDuration = s.detector.sagDuration ∧
          ∀ p : Phase, t.detector.slow.get p = slow p)) ∧
      (s.detector.state = .sag → joins ∧
        (¬recovered → t.detector.state = .sag ∧ t.detector.recovery = s.detector.recovery ∧
          t.detector.sagEnd = false) ∧
        (recovered → 1 < s.endQualify → t.detector.state = .ending ∧ t.detector.recovery = 1 ∧
          t.detector.endingElapsed = t.detector.elapsed ∧ t.detector.sagEnd = false)) ∧
      (s.detector.state = .ending →
        (recovered → t.detector.involved = s.detector.involved) ∧
        (recovered → s.detector.recovery + 1 < s.endQualify → t.detector.state = .ending ∧
          t.detector.recovery = s.detector.recovery + 1 ∧
          t.detector.endingElapsed = s.detector.endingElapsed ∧ t.detector.sagEnd = false) ∧
        (¬recovered → t.detector.state = .sag ∧ t.detector.recovery = 0 ∧ joins ∧
          t.detector.sagEnd = false))

/-- What the demand evaluator publishes for each section (R68, R70, R74, R75). -/
def Obligations.DemandOfFrame : Prop :=
  ∀ (c : StepClass) (f : SampleFrame) (s : State) (k : Fin 4) (curve : Curve),
    accepted c f s = true → s.configured = true → s.curves[s.curveNumber k]? = some curve →
    ∃ t, exec (.sampleFrame f) s = .next t ∧
      (t.demand.get k).required =
        ((curve.steps.find? fun st => decide (t.detector.elapsed / 64 < st.1)).map Prod.snd).getD
          curve.final ∧
      ((t.demand.get k).needed = true ↔ (t.detector.state = .sag ∨ t.detector.state = .ending) ∧
        ∃ (p : Phase) (l : Nat), t.levels.supply.get p = some l ∧
          l * 1000 < (t.demand.get k).required * 8192) ∧
      (t.demand.get k).floorTarget = min ((t.demand.get k).required + s.floorMargin k) 1000

/-! ### Store allocator -/

/-- The store level F of every frame of a configured engine (R132, R133), and the band of every class
against it (R135). -/
def Obligations.StoreLevelAndBands : Prop :=
  ∀ (c : StepClass) (f : SampleFrame) (s : State) (l : StoreLevels),
    accepted c f s = true → s.configured = true → s.store.levels = some l →
    (∀ i : Fin 4, l.release.get i ≤ l.degrade.get i) →
    ∃ t, exec (.sampleFrame f) s = .next t ∧
      (t.dcValue ≤ l.vmin → t.store.level = 0) ∧
      ((l.vmin : Int) < t.dcValue → t.store.level = min 1000
        (1000 * (t.dcValue.toNat ^ 2 - l.vmin ^ 2) / (8192 ^ 2 - l.vmin ^ 2))) ∧
      t.store.level ≤ 1000 ∧
      ∀ i : Fin 4,
        (t.store.band.get i = .serve ↔ l.degrade.get i ≤ t.store.level) ∧
        (t.store.band.get i = .degrade ↔
          l.release.get i ≤ t.store.level ∧ t.store.level < l.degrade.get i) ∧
        (t.store.band.get i = .release ↔ t.store.level < l.release.get i)

/-- Ready marks, STORE_LOW and its arming (R138, R140, R141). -/
def Obligations.ReadyMarksAndStoreLow : Prop :=
  ∀ (c : StepClass) (f : SampleFrame) (s : State) (l : StoreLevels),
    accepted c f s = true → s.configured = true → s.store.levels = some l →
    l.release.get 0 ≤ l.ready.get 0 →
    ∃ t, exec (.sampleFrame f) s = .next t ∧
      (∀ i : Fin 4, t.store.ready.get i = true ↔ l.ready.get i ≤ t.store.level) ∧
      (t.store.level < l.release.get 0 → t.store.lowArmed = false ∧
        (s.store.lowArmed = true → t.reports .storeLow ⟨Word.ofNat t.store.level, 0⟩ = true)) ∧
      (l.ready.get 0 ≤ t.store.level → t.store.lowArmed = true) ∧
      (l.release.get 0 ≤ t.store.level → t.store.level < l.ready.get 0 →
        t.store.lowArmed = s.store.lowArmed)

/-! ### Injection unit and DRIVE frame -/

/-- The injection unit's items of a section (R112 to R117, R119): U_eff and every reference within it;
RESTORE at FULL and while slewing, INPHASE at FULL, FLOOR at DEGRADED, each clamped to U_eff; the energy
of the frame; and no reference, method or energy unless the section is INJECTING or
RETURNING/SLEWING. -/
def Obligations.InjectionReferences : Prop :=
  ∀ (c : StepClass) (f : SampleFrame) (s : State) (k : Fin 4),
    accepted c f s = true → s.configured = true →
    ∃ t, exec (.sampleFrame f) s = .next t ∧
      (t.injection.get k).uEff =
        (s.limit k * 8192 / 1000) * (min (max t.dcValue 0) 8192).toNat / 8192 ∧
      (∀ p : Phase, ((t.injection.get k).refs.get p).natAbs ≤ (t.injection.get k).uEff) ∧
      ((t.sec k).state ≠ .injecting → (t.sec k).state ≠ .returningSlewing →
        (t.injection.get k).refs = ⟨0, 0, 0⟩ ∧ (t.injection.get k).method = ⟨.none, .none, .none⟩ ∧
        (t.injection.get k).limited = false ∧ (t.injection.get k).energy = 0) ∧
      (let clamp (u : Int) : Int :=
        max (-((t.injection.get k).uEff : Int)) (min ((t.injection.get k).uEff : Int) u)
      let restore (target : Nat) (p : Phase) : Int :=
        roundDiv (target * sine ((t.tracker.refAngle + p.phi) % 49152)) 1000 - t.supplyValue p
      let inphase (target : Nat) (p : Phase) : Int :=
        match t.levels.supply.get p with
        | some l =>
          if l < 82 then restore target p
          else roundDiv (t.supplyValue p * ((target : Int) * 8192 - 1000 * l)) (1000 * l)
        | none => restore target p
      let floor (target : Nat) (p : Phase) : Int :=
        match t.levels.supply.get p with
        | some l => if target = 0 ∨ target * 8192 ≤ l * 1000 then 0 else inphase target p
        | none => if target = 0 then 0 else restore target p
      (∀ p : Phase, (t.sec k).state = .injecting →
        ((t.sec k).service = .full → s.strategy k = .restore →
          (t.injection.get k).refs.get p = clamp (restore (s.target k) p)) ∧
        ((t.sec k).service = .full → s.strategy k = .inphase →
          (t.injection.get k).refs.get p = clamp (inphase (s.target k) p)) ∧
        ((t.sec k).service = .degraded →
          (t.injection.get k).refs.get p = clamp (floor (t.demand.get k).floorTarget p))) ∧
      (∀ p : Phase, (t.sec k).state = .returningSlewing →
        (t.injection.get k).refs.get p = clamp (restore (s.target k) p)) ∧
      (t.injection.get k).energy =
        ((t.injection.get k).refs.a * t.current k .A + (t.injection.get k).refs.b * t.current k .B
          + (t.injection.get k).refs.c * t.current k .C).tdiv 8192)

/-- The DRIVE frame of an accepted frame (R82, R117, R124 to R126): first of at most two frames sent, with
the slot-free flag, the answered sequence number, the commands of the decided states, and the clamped
references. -/
def Obligations.DriveFrameOfFrame : Prop :=
  ∀ (c : StepClass) (f : SampleFrame) (s : State), accepted c f s = true → noPending s = true →
    ∃ t, exec (.sampleFrame f) s = .next t ∧
      t.outPort.length ≤ 2 ∧ ∃ drive, t.outPort.head? = some drive ∧ drive.length = 19 ∧
        drive.getLast? = some (crc drive.dropLast) ∧
        drive.getD 0 0 = (if s.management.slot.isNone then 19 else 3) ∧ drive.getD 1 0 = f.seq ∧
        ∀ k : Fin 4,
          (let isOpen : Bool := (t.sec k).state == .injecting || (t.sec k).state == .returningSlewing
          let isActive : Bool :=
            match (t.sec k).state with
            | .injecting | .returningSlewing | .returningClosing | .releasing => true
            | .fault => !(t.sec k).closeSeen && !f.status.getLsbD (4 * k.val + 1)
            | .out | .bypassed | .armed | .watching => false
          drive.getD (2 + 4 * k.val) 0 = Word.ofNat (isOpen.toNat + 2 * isActive.toNat) ∧
          drive.getD (3 + 4 * k.val) 0 = Word.ofInt (t.injection.get k).refs.a ∧
          drive.getD (4 + 4 * k.val) 0 = Word.ofInt (t.injection.get k).refs.b ∧
          drive.getD (5 + 4 * k.val) 0 = Word.ofInt (t.injection.get k).refs.c)

/-- ANSWER_PART and ALERT_FRAME: what takes the out slot of an accepted frame, and of a safe DRIVE frame after
a silence expiry; an expiry that moves no section has neither (R126, R127, R171, R173, R181). -/
def Obligations.OutSlotChoice : Prop :=
  (∀ (c : StepClass) (f : SampleFrame) (s : State), accepted c f s = true →
    ∃ t, exec (.answerPart (.sample f)) s = .next t ∧ exec (.alertFrame (.sample f)) s = .next t ∧
      (atSlot c f s).outPort.length = 1 ∧
      (atSlot c f s).management.queue = s.management.queue ∧
      (atSlot c f s).management.slot = s.management.slot ∧
      (atSlot c f s).management.snapshot = s.management.snapshot ∧
      slotChoice (atSlot c f s) t) ∧
  ∀ s : State, s.resetLine = false → s.link.timer.isSome = true → s.controller.run = .running →
    ∃ t, exec (.answerPart .silence) s = .next t ∧ exec (.alertFrame .silence) s = .next t ∧
      (anyActive s.controller.sections = false → t.outPort = []) ∧
      (anyActive s.controller.sections = true →
        (atSilentSlot s).outPort.length = 1 ∧
        (atSilentSlot s).management.queue = s.management.queue ∧
        (atSilentSlot s).management.slot = s.management.slot ∧
        (atSilentSlot s).management.snapshot = s.management.snapshot ∧
        (atSilentSlot s).management.alerts.get .linkSilent = some ⟨0, 0⟩ ∧
        slotChoice (atSilentSlot s) t)

/-- The words of an ALERT frame, of an ANSWER frame and of the two parts of a record answer (R155, R182, R184,
11.2), and the codes they use (11.4). The summary is read from the engine as it stands (log 33). -/
def Obligations.FrameLayouts : Prop :=
  (∀ (s : State) (a : AlertKind) (p : Payload),
    let ws := alertWords s a p
    ws.length = 11 ∧ ws.getLast? = some (crc ws.dropLast) ∧
      ws.getD 0 0 = (if s.management.slot.isNone then 21 else 5) ∧
      ws.getD 1 0 = Word.ofNat a.number ∧ ws.getD 2 0 = p.first ∧ ws.getD 3 0 = p.second ∧
      ws.getD 4 0 = Word.ofNat
        (s.controller.run.code + 2 * s.tracker.ref.code + 8 * s.tracker.lock.code) ∧
      ws.getD 5 0 = Word.ofNat s.store.level ∧
      ∀ k : Fin 4, ws.getD (6 + k.val) 0 = Word.ofNat (s.sec k).reported) ∧
  (∀ (free : Bool) (snapshot : Option Record) (part : AnswerPart),
    let ws := answerWords free snapshot part
    ws.length = 48 ∧ ws.getLast? = some (crc ws.dropLast) ∧
      ws.getD 0 0 = (if free then 20 else 4) ∧ ws.getD 1 0 = part.code ∧
      ws.getD 2 0 = Word.ofNat (part.result.code + 256 * part.number + 1024 * part.parts) ∧
      (∀ payload, part.body = .words payload →
        ∀ i : Fin 44, ws.getD (3 + i.val) 0 = payload.getD i.val 0) ∧
      (∀ r, snapshot = some r → part.body = .recordHeader →
        ws.getD 3 0 = r.seq ∧ ws.getD 4 0 = (if r.isOpen then 0 else 1) ∧
        ws.getD 5 0 = Word.ofNat ((r.endCause.map EndCause.code).getD 0) ∧
        (ws.getD 6 0).getLsbD 0 = r.sagDuration.isSome ∧
        (ws.getD 6 0).getLsbD 1 = r.episodeDuration.isSome ∧
        (∀ p : Phase, (ws.getD 6 0).getLsbD (2 + p.offset) = (r.minSupply.get p).isSome) ∧
        (ws.getD 6 0).getLsbD 5 = r.phaseJump.isSome ∧
        (ws.getD 6 0).getLsbD 6 = r.endCause.isSome ∧ (ws.getD 6 0).toNat < 128 ∧
        ws.getD 7 0 ++ ws.getD 8 0 = r.startFrame ∧
        ws.getD 9 0 = (if r.trigger.kind = .fast then 1 else 0)
          + 2 * Word.ofNat r.trigger.phase.offset ∧
        (∀ p : Phase, (ws.getD 10 0).getLsbD p.offset = r.involved.get p) ∧
        (ws.getD 10 0).toNat / 8 = 2 * (r.involved.a.toNat + r.involved.b.toNat + r.involved.c.toNat) ∧
        ws.getD 11 0 ++ ws.getD 12 0 = BitVec.ofNat 32 (r.sagDuration.getD 0) ∧
        ws.getD 13 0 ++ ws.getD 14 0 = r.episodeDuration.getD 0 ∧
        (∀ p : Phase, ws.getD (15 + p.offset) 0 = Word.ofNat ((r.minSupply.get p).getD 0)) ∧
        ws.getD 18 0 = Word.ofInt (r.phaseJump.getD 0) ∧ ws.getD 19 0 = Word.ofNat r.fStart ∧
        ws.getD 20 0 = Word.ofNat r.fLowest ∧ ws.getD 21 0 = (if r.forced then 1 else 0) ∧
        ∀ i : Fin 25, ws.getD (22 + i.val) 0 = 0) ∧
      (∀ r, snapshot = some r → part.body = .recordEntries → r.entries.length ≤ 4 →
        ws.getD 3 0 = Word.ofNat r.entries.length ∧
        ∀ i : Fin 4,
          (∀ e, r.entries[i.val]? = some e →
            ws.getD (4 + 8 * i.val) 0 = Word.ofNat (e.sec.val + 1) ∧
            ws.getD (5 + 8 * i.val) 0 = Word.ofNat e.worst.code ∧
            ws.getD (6 + 8 * i.val) 0 =
              Word.ofNat (e.firstOffset.isSome.toNat + 2 * e.minLoad.isSome.toNat) ∧
            ws.getD (7 + 8 * i.val) 0 ++ ws.getD (8 + 8 * i.val) 0 =
              BitVec.ofNat 32 (e.firstOffset.getD 0) ∧
            ws.getD (9 + 8 * i.val) 0 = Word.ofNat (e.minLoad.getD 0) ∧
            ws.getD (10 + 8 * i.val) 0 ++ ws.getD (11 + 8 * i.val) 0 = BitVec.ofInt 32 e.energy) ∧
          (r.entries.length ≤ i.val → ∀ j : Fin 8, ws.getD (4 + 8 * i.val + j.val) 0 = 0))) ∧
  (alertKinds.map AlertKind.number = List.range 11 ∧ causes.map Cause.code = List.range 14 ∧
    [ResultCode.ok, .pending, .refusedState, .badArgument, .locked, .noLoad, .loadOpen,
      .statusNotClear, .incomplete, .tableInvalid, .notFound, .unknownRequest].map ResultCode.code
      = List.range 12 ∧
    [EntryOutcome.notArmed, .watched, .full, .degraded, .releasedStore, .releasedRequest,
      .releasedHalt, .overcurrent, .fault, .linkSilent].map EntryOutcome.code = List.range 10 ∧
    [EndCause.recovered, .superseded, .linkSilent, .restart].map EndCause.code = List.range 4 ∧
    [RunState.halted, .running].map RunState.code = List.range 2 ∧
    [LockState.unlocked, .locking, .locked].map LockState.code = List.range 3 ∧
    [RefInForce.tracking, .held, .slewing].map RefInForce.code = List.range 3) ∧
  ∀ x : Section,
    ([SecState.out, .bypassed, .armed, .watching, .returningSlewing, .returningClosing, .releasing,
      .fault].map fun st => Section.reported { x with state := st }) = [0, 1, 2, 3, 6, 7, 8, 9] ∧
    Section.reported { x with state := .injecting, service := .full } = 4 ∧
    Section.reported { x with state := .injecting, service := .degraded } = 5

/-! ### Section controller in a frame -/

/-- FEEDBACK_ACCEPTED (R85): the feedback filter of every section in every accepted frame, configured or
not and in any state. A bypass that moves without command (R89): an ARMED or WATCHING section whose
accepted feedback becomes OPEN, and an INJECTING or RETURNING/SLEWING one without an OPEN confirm whose
accepted feedback becomes CLOSED, goes to FAULT; a BYPASSED or OUT one keeps its state. -/
def Obligations.FeedbackFilter : Prop :=
  (∀ (c : StepClass) (f : SampleFrame) (s : State), accepted c f s = true →
     ∃ t, exec (.feedbackAccepted f) s = .next t ∧
       ∀ k : Fin 4,
         let report : Position := if f.status.getLsbD (4 * k.val) then .opened else .closed
         let length : Nat := if s.valid .sections then s.secField k 10 else 3
         (report = (s.sec k).feedback →
           (t.sec k).feedback = (s.sec k).feedback ∧ (t.sec k).filterCount = 0) ∧
         (report ≠ (s.sec k).feedback → (s.sec k).filterCount + 1 < length →
           (t.sec k).feedback = (s.sec k).feedback ∧
             (t.sec k).filterCount = (s.sec k).filterCount + 1) ∧
         (report ≠ (s.sec k).feedback → length ≤ (s.sec k).filterCount + 1 →
           (t.sec k).feedback = report ∧ (t.sec k).filterCount = 0)) ∧
  ∀ (c : StepClass) (f : SampleFrame) (s : State) (k : Fin 4), accepted c f s = true →
    noPending s = true → (viewOf c f s k).status.bridgeFault = false →
    ∃ t, exec (.feedbackAccepted f) s = .next t ∧
      ((s.sec k).feedback = .closed → (t.sec k).feedback = .opened →
        ((s.sec k).state = .bypassed ∨ (s.sec k).state = .out → (t.sec k).state = (s.sec k).state) ∧
        ((viewOf c f s k).status.ready = true →
          (s.sec k).state = .armed ∨ (s.sec k).state = .watching →
          (t.sec k).state = .fault ∧ (t.sec k).faultCause = some .openUncommanded ∧
          (t.sec k).confirm = .closing ∧ (t.sec k).closeSeen = false ∧
          (t.sec k).eligible = false ∧ t.reportsFrom .sectionFault k .openUncommanded = true)) ∧
      ((s.sec k).feedback = .opened → (t.sec k).feedback = .closed →
        (viewOf c f s k).status.ready = true → (s.sec k).confirm ≠ .opening →
        (s.sec k).state = .injecting ∨ (s.sec k).state = .returningSlewing →
        (t.sec k).state = .fault ∧ (t.sec k).faultCause = some .closeUncommanded ∧
        (t.sec k).confirm = .closing ∧ (t.sec k).closeSeen = false ∧ (t.sec k).eligible = false ∧
        t.reportsFrom .sectionFault k .closeUncommanded = true)

/-- OPEN_CONFIRMED and OPEN_STUCK (R86, R87): an OPEN confirm in a frame after its first commanding one. -/
def Obligations.OpenConfirm : Prop :=
  ∀ (c : StepClass) (f : SampleFrame) (s : State) (k : Fin 4), accepted c f s = true →
    noPending s = true → (s.sec k).confirm = .opening → (s.sec k).confirmFresh = false →
    (viewOf c f s k).status.ready = true → (viewOf c f s k).status.bridgeFault = false →
    ((updatedOf c f s k).feedback = .opened → (updatedOf c f s k).filterCount = 0 →
      undisturbed c f s k = true →
      ((s.sec k).state = .injecting → (viewOf c f s k).sagEnd = false →
        ¬((viewOf c f s k).inSag = true ∧ (viewOf c f s k).order = .release) →
        ∃ t, exec (.openConfirmed f) s = .next t ∧ (t.sec k).state = .injecting ∧
          (t.sec k).confirm = .none ∧ (t.sec k).feedback = .opened) ∧
      ((s.sec k).state = .returningSlewing → (viewOf c f s k).sagStart = false →
        (viewOf c f s k).becameTracking = false →
        ∃ t, exec (.openConfirmed f) s = .next t ∧ (t.sec k).state = .returningSlewing ∧
          (t.sec k).confirm = .none ∧ (t.sec k).feedback = .opened)) ∧
    (¬((updatedOf c f s k).feedback = .opened ∧ (updatedOf c f s k).filterCount = 0) →
      s.openTimeout k ≤ min 64 ((s.sec k).confirmTimer + c.gap + 1) →
      (s.sec k).state = .injecting ∨ (s.sec k).state = .returningSlewing →
      ∃ t, exec (.openStuck f) s = .next t ∧ (t.sec k).state = .fault ∧
        (t.sec k).faultCause = some .openStuck ∧ (t.sec k).confirm = .closing ∧
        (t.sec k).confirmTimer = 0 ∧ (t.sec k).closeSeen = false ∧ (t.sec k).eligible = false ∧
        t.reportsFrom .sectionFault k .openStuck = true)

/-- CLOSE_CONFIRMED and CLOSE_STUCK (R88): a CLOSE confirm in a frame after its first commanding one. -/
def Obligations.CloseConfirm : Prop :=
  ∀ (c : StepClass) (f : SampleFrame) (s : State) (k : Fin 4), accepted c f s = true →
    noPending s = true → (s.sec k).confirm = .closing → (s.sec k).confirmFresh = false →
    (viewOf c f s k).status.ready = true → (viewOf c f s k).status.bridgeFault = false →
    (updatedOf c f s k).overCount < 2 →
    ((updatedOf c f s k).feedback = .closed → (updatedOf c f s k).filterCount = 0 →
      ∃ t, exec (.closeConfirmed f) s = .next t ∧
        ((s.sec k).state = .returningClosing → (t.sec k).confirm = .none ∧
          (t.sec k).eligible = false ∧
          (t.sec k).state = if (viewOf c f s k).inSag then .watching else .armed) ∧
        ((s.sec k).state = .releasing → (t.sec k).confirm = .none ∧ (t.sec k).state = .bypassed ∧
          (t.sec k).lastLeave = (s.sec k).lastLeave ∧ (t.sec k).eligible = (s.sec k).eligible) ∧
        ((s.sec k).state = .fault → (t.sec k).confirm = .none ∧ (t.sec k).state = .fault ∧
          (t.sec k).closeSeen = true ∧ (t.sec k).faultCause = (s.sec k).faultCause)) ∧
    (¬((updatedOf c f s k).feedback = .closed ∧ (updatedOf c f s k).filterCount = 0) →
      (s.sec k).confirmTimedOut = false →
      s.closeTimeout k ≤ min 64 ((s.sec k).confirmTimer + c.gap + 1) →
      (s.sec k).state = .returningClosing ∨ (s.sec k).state = .releasing ∨ (s.sec k).state = .fault →
      ∃ t, exec (.closeStuck f) s = .next t ∧ (t.sec k).state = .fault ∧
        (t.sec k).faultCause = some .closeStuck ∧ (t.sec k).confirm = .closing ∧
        (t.sec k).confirmTimedOut = true ∧ t.reportsFrom .sectionFault k .closeStuck = true)

/-- OVERCURRENT (R99): the second consecutive over frame of a section that is INJECTING or RETURNING, in
which nothing of higher rank moves it. That the count is 0 at once is the model's reading (log 32). -/
def Obligations.OvercurrentReleases : Prop :=
  ∀ (c : StepClass) (f : SampleFrame) (s : State) (k : Fin 4), accepted c f s = true →
    (s.sec k).state.carrying = true → 1 ≤ (s.sec k).overCount →
    (∃ p : Phase, s.currentLimit k * 8192 < ((measured c f s).current k p).natAbs * 1000) →
    (viewOf c f s k).status.ready = true → (viewOf c f s k).status.bridgeFault = false →
    (newsOf c f s k).openTimesOut = false → (newsOf c f s k).closeTimesOut = false →
    ((newsOf c f s k).turnedClosed = true → (s.sec k).confirm = .opening ∨
      (s.sec k).state = .returningClosing) →
    ∃ t, exec (.overcurrent f) s = .next t ∧ (t.sec k).state = .releasing ∧
      (t.sec k).lastLeave = .overcurrent ∧ (t.sec k).overCount = 0 ∧ (t.sec k).eligible = false ∧
      (t.sec k).confirm = .closing ∧ t.reportsFrom .sectionReleased k .overcurrent = true

/-- ARM_APPLIED, AUTOMATIC_REARM and DISARM_APPLIED (R101, R102, R103, R106): at a reference cycle boundary,
a BYPASSED section for which the arming conditions hold, and an ARMED section with a DISARM pending; a
pending ARM whose conditions fail there is discarded. -/
def Obligations.ArmingAtBoundary : Prop :=
  (∀ (c : StepClass) (f : SampleFrame) (s : State) (k : Fin 4), accepted c f s = true →
    s.configured = true → (s.sec k).state = .bypassed → (viewOf c f s k).status.bridgeFault = false →
    (judged c f s).tracker.marks.boundary = true → (judged c f s).detector.sagStart = false →
    s.controller.run = .running → s.controller.episode = false →
    (judged c f s).tracker.lock = .locked → (judged c f s).store.ready.get (s.classOf k) = true →
    (updatedOf c f s k).feedback = .closed → (viewOf c f s k).status.ready = true →
    ((s.sec k).pendingReq = .arm →
      ∃ t, exec (.armApplied f) s = .next t ∧ (t.sec k).state = .armed ∧
        (t.sec k).pendingReq = .none ∧ (t.sec k).eligible = false ∧ (t.sec k).lastArm = .applied) ∧
    ((s.sec k).pendingReq ≠ .arm → (s.sec k).eligible = true → s.autoRearm k = true →
      (s.sec k).hold = false →
      ∃ t, exec (.automaticRearm f) s = .next t ∧ (t.sec k).state = .armed ∧
        (t.sec k).eligible = false ∧ (t.sec k).lastArm = .applied)) ∧
  (∀ (c : StepClass) (f : SampleFrame) (s : State) (k : Fin 4), accepted c f s = true →
    noPending s = true → s.configured = true → (s.sec k).state = .bypassed →
    (s.sec k).pendingReq = .arm → (viewOf c f s k).status.bridgeFault = false →
    (judged c f s).tracker.marks.boundary = true → (judged c f s).detector.sagStart = false →
    ¬(s.controller.run = .running ∧ s.controller.episode = false ∧
      (judged c f s).tracker.lock = .locked ∧ (judged c f s).store.ready.get (s.classOf k) = true ∧
      (updatedOf c f s k).feedback = .closed ∧ (viewOf c f s k).status.ready = true) →
    ∃ t, exec (.sampleFrame f) s = .next t ∧ (t.sec k).state = .bypassed ∧
      (t.sec k).pendingReq = .none ∧ (t.sec k).lastArm = .discardedConditions ∧
      (t.sec k).eligible = (s.sec k).eligible ∧ (t.sec k).hold = (s.sec k).hold) ∧
  ∀ (c : StepClass) (f : SampleFrame) (s : State) (k : Fin 4), accepted c f s = true →
    noPending s = true → s.configured = true → (s.sec k).state = .armed →
    (s.sec k).pendingReq = .disarm → (judged c f s).tracker.marks.boundary = true →
    (judged c f s).detector.sagStart = false → (newsOf c f s k).turnedOpen = false →
    (viewOf c f s k).status.ready = true → (viewOf c f s k).status.bridgeFault = false →
    ∃ t, exec (.disarmApplied f) s = .next t ∧ (t.sec k).state = .bypassed ∧
      (t.sec k).lastLeave = .request ∧ (t.sec k).pendingReq = .none ∧
      (t.sec k).eligible = (s.sec k).eligible ∧ (t.sec k).hold = (s.sec k).hold ∧
      t.reportsFrom .sectionReleased k .request = true

/-- Sections in the sag-start frame (R90, R91, R94). -/
def Obligations.SectionsAtSagStart : Prop :=
  ∀ (c : StepClass) (f : SampleFrame) (s : State) (k : Fin 4), accepted c f s = true →
    s.configured = true → (judged c f s).detector.sagStart = true →
    (viewOf c f s k).status.bridgeFault = false →
    ∃ t, exec (.sagStart f) s = .next t ∧
      ((s.sec k).state = .armed → (viewOf c f s k).status.ready = true →
        (newsOf c f s k).turnedOpen = false →
        ((s.sec k).pendingReq = .disarm → (t.sec k).state = .bypassed ∧
          (t.sec k).lastLeave = .request ∧ (t.sec k).pendingReq = .none) ∧
        ((s.sec k).pendingReq ≠ .disarm → (judged c f s).orderOf k = .release →
          (t.sec k).state = .bypassed ∧ (t.sec k).lastLeave = .store ∧ (t.sec k).eligible = true ∧
          t.reportsFrom .sectionReleased k .store = true) ∧
        ((s.sec k).pendingReq ≠ .disarm → (judged c f s).orderOf k ≠ .release →
          ((judged c f s).demand.get k).needed = true →
          (t.sec k).state = .injecting ∧ (t.sec k).confirm = .opening ∧ (t.sec k).confirmTimer = 0 ∧
          ((t.sec k).service = .full ↔
            (judged c f s).orderOf k = .serve ∧ (s.sec k).service = .full)) ∧
        ((s.sec k).pendingReq ≠ .disarm → (judged c f s).orderOf k ≠ .release →
          ((judged c f s).demand.get k).needed = false → (t.sec k).state = .watching)) ∧
      ((s.sec k).state = .bypassed → (s.sec k).pendingReq = .arm →
        (t.sec k).state = .bypassed ∧ (t.sec k).pendingReq = .none ∧
          (t.sec k).lastArm = .discardedSag) ∧
      ((s.sec k).state = .returningSlewing → undisturbed c f s k = true →
        ((judged c f s).orderOf k = .release → (t.sec k).state = .releasing ∧
          (t.sec k).lastLeave = .store ∧ (t.sec k).eligible = true ∧ (t.sec k).confirm = .closing) ∧
        ((judged c f s).orderOf k ≠ .release → (t.sec k).state = .injecting ∧
          (t.sec k).confirm = .none ∧
          ((t.sec k).service = .full ↔
            (judged c f s).orderOf k = .serve ∧ (s.sec k).service = .full)))

/-- WATCHING and INJECTING sections in a frame whose detector state is SAG or ENDING and which is not the
sag-start frame (R92, R93). -/
def Obligations.SectionsThroughSag : Prop :=
  ∀ (c : StepClass) (f : SampleFrame) (s : State) (k : Fin 4), accepted c f s = true →
    s.configured = true → (judged c f s).detector.inSag = true →
    (judged c f s).detector.sagStart = false → undisturbed c f s k = true →
    ∃ t, exec (.sampleFrame f) s = .next t ∧
      ((s.sec k).state = .watching → (newsOf c f s k).turnedOpen = false →
        ((judged c f s).orderOf k = .release → (t.sec k).state = .bypassed ∧
          (t.sec k).lastLeave = .store ∧ (t.sec k).eligible = true) ∧
        ((judged c f s).orderOf k ≠ .release → ((judged c f s).demand.get k).needed = true →
          (t.sec k).state = .injecting ∧ (t.sec k).confirm = .opening ∧
          ((t.sec k).service = .full ↔
            (judged c f s).orderOf k = .serve ∧ (s.sec k).service = .full)) ∧
        ((judged c f s).orderOf k ≠ .release → ((judged c f s).demand.get k).needed = false →
          (t.sec k).state = .watching)) ∧
      ((s.sec k).state = .injecting →
        ((judged c f s).orderOf k = .release → (t.sec k).state = .releasing ∧
          (t.sec k).lastLeave = .store ∧ (t.sec k).eligible = true ∧ (t.sec k).confirm = .closing ∧
          t.reportsFrom .sectionReleased k .store = true) ∧
        ((judged c f s).orderOf k = .degrade → (t.sec k).state = .injecting ∧
          (t.sec k).service = .degraded) ∧
        ((judged c f s).orderOf k = .serve → (t.sec k).state = .injecting ∧
          (t.sec k).service = (s.sec k).service))

/-- Driver status bits (R97, R98): a bridge fault takes every section but an OUT or FAULT one to FAULT; a
driver that is not ready bypasses an ARMED or WATCHING section and faults an INJECTING or RETURNING one. -/
def Obligations.DriverStatusBits : Prop :=
  ∀ (c : StepClass) (f : SampleFrame) (s : State) (k : Fin 4), accepted c f s = true →
    noPending s = true →
    ∃ t, exec (.sampleFrame f) s = .next t ∧
      (f.status.getLsbD (4 * k.val + 1) = true → (s.sec k).state ≠ .out → (s.sec k).state ≠ .fault →
        (t.sec k).state = .fault ∧ (t.sec k).faultCause = some .bridge ∧
        (t.sec k).confirm = .closing ∧ (t.sec k).closeSeen = false ∧ (t.sec k).eligible = false ∧
        t.reportsFrom .sectionFault k .bridge = true) ∧
      (f.status.getLsbD (4 * k.val + 1) = false → f.status.getLsbD (4 * k.val + 2) = false →
        ((s.sec k).state = .armed ∨ (s.sec k).state = .watching →
          (t.sec k).state = .bypassed ∧ (t.sec k).lastLeave = .notReady ∧
          (t.sec k).eligible = (s.sec k).eligible ∧
          t.reportsFrom .sectionReleased k .notReady = true) ∧
        ((s.sec k).state.carrying = true →
          (t.sec k).state = .fault ∧ (t.sec k).faultCause = some .notReady ∧
          (t.sec k).confirm = .closing ∧ t.reportsFrom .sectionFault k .notReady = true))

/-! ### Sag records -/

/-- The record that a sag-start frame opens (R149 to R153): an OPEN record is closed SUPERSEDED, the oldest
record goes when the list holds 32, and the new record stands newest with the values of the frame, its
entries with the outcomes and readings of the frame. That a forced return in that frame marks it is the
model's reading (log 15), and so is that a section whose close times out in FAULT hands no outcome (log 13). -/
def Obligations.SagRecordOpens : Prop :=
  ∀ (c : StepClass) (f : SampleFrame) (s : State), accepted c f s = true → s.configured = true →
    (judged c f s).detector.sagStart = true →
    ∃ t, exec (.sagStart f) s = .next t ∧ t.records.nextSeq = s.records.nextSeq + 1 ∧
      (let closed : List Record :=
        match openRecord s.records.list with
        | some r => s.records.list.dropLast ++ [{ r with
            isOpen := false, endCause := some .superseded
            episodeDuration := some (t.link.counter - r.startFrame) }]
        | none => s.records.list
      t.records.list.dropLast = if 32 ≤ s.records.list.length then closed.tail else closed) ∧
      let enter (m l : Option Nat) : Option Nat :=
        match l, m with
        | some l, some m => some (min m (l * 1000 / 8192))
        | some l, none => some (l * 1000 / 8192)
        | none, m => m
      ∃ r, t.records.list.getLast? = some r ∧ r.isOpen = true ∧ r.seq = s.records.nextSeq ∧
        r.startFrame = t.link.counter ∧ t.detector.trigger = some r.trigger ∧
        r.involved = t.detector.involved ∧ r.sagDuration = none ∧ r.episodeDuration = none ∧
        r.endCause = none ∧ r.phaseJump = none ∧ r.fStart = t.store.level ∧
        r.fLowest = t.store.level ∧ (r.forced = forcedIn c f s) ∧
        (∀ p : Phase, r.minSupply.get p = enter none (t.levels.supply.get p)) ∧
        r.entries = (four.filter fun k => s.inService k).map fun k =>
          { sec := k
            worst := worstAfter .notArmed (frameOutcome true (s.sec k) (t.sec k))
            firstOffset := if (t.sec k).state = .injecting then some 0 else none
            minLoad := enter (enter (enter none (t.levels.load.get k).a) (t.levels.load.get k).b)
              (t.levels.load.get k).c
            energy := max (-2147483647) (min 2147483647 (t.injection.get k).energy) }

/-- The OPEN record in a frame that is no sag-start frame (R120, R150 to R153): its fixed fields stand, the
others are brought up to date, its entries with the outcomes and readings of the frame, and it stays
OPEN exactly while the episode goes on; the rest of the list stands. Without an OPEN record the list
stands. The ranks of the outcomes (R151). That a section whose close times out in FAULT hands no outcome is
the model's reading (log 13). -/
def Obligations.OpenRecordUpdate : Prop :=
  (∀ (c : StepClass) (f : SampleFrame) (s : State), accepted c f s = true →
    openRecord s.records.list = none → (judged c f s).detector.sagStart = false →
    ∃ t, exec (.sampleFrame f) s = .next t ∧ t.records = s.records) ∧
  [EntryOutcome.notArmed, .watched, .full, .degraded, .releasedStore, .releasedRequest, .releasedHalt,
    .overcurrent, .fault, .linkSilent].map EntryOutcome.rank = [0, 1, 2, 3, 4, 5, 5, 6, 7, 8] ∧
  ∀ (c : StepClass) (f : SampleFrame) (s : State) (r : Record), accepted c f s = true →
    openRecord s.records.list = some r → s.controller.episode = true →
    (judged c f s).detector.sagStart = false →
    ∃ t, exec (.sampleFrame f) s = .next t ∧
      t.records.nextSeq = s.records.nextSeq ∧
      t.records.list.dropLast = s.records.list.dropLast ∧
      let enter (m l : Option Nat) : Option Nat :=
        match l, m with
        | some l, some m => some (min m (l * 1000 / 8192))
        | some l, none => some (l * 1000 / 8192)
        | none, m => m
      ∃ r', t.records.list.getLast? = some r' ∧
        r'.seq = r.seq ∧ r'.startFrame = r.startFrame ∧ r'.trigger = r.trigger ∧
        r'.fStart = r.fStart ∧ r'.fLowest = min r.fLowest t.store.level ∧
        r'.involved = t.detector.involved ∧ r'.phaseJump = t.detector.phaseJump ∧
        (t.detector.sagEnd = true → r'.sagDuration = t.detector.sagDuration) ∧
        (t.detector.sagEnd = false → r'.sagDuration = r.sagDuration) ∧
        (s.configured = true → r'.forced = (r.forced || forcedIn c f s)) ∧
        (∀ p : Phase, r'.minSupply.get p = enter (r.minSupply.get p) (t.levels.supply.get p)) ∧
        (r'.isOpen = t.controller.episode) ∧
        (t.controller.episode = true → r'.endCause = r.endCause ∧
          r'.episodeDuration = r.episodeDuration) ∧
        (t.controller.episode = false → r'.endCause = some .recovered ∧
          r'.episodeDuration = some (t.link.counter - r.startFrame) ∧
          t.reports .episodeEnd ⟨r.seq, 0⟩ = true) ∧
        r'.entries.map (fun e => (e.sec, e.firstOffset, e.minLoad, e.energy)) =
          r.entries.map (fun e => (e.sec,
            (match e.firstOffset with
              | some n => some n
              | none => if (t.sec e.sec).state = .injecting then some t.detector.elapsed else none),
            enter (enter (enter e.minLoad (t.levels.load.get e.sec).a) (t.levels.load.get e.sec).b)
              (t.levels.load.get e.sec).c,
            max (-2147483647) (min 2147483647 (e.energy + (t.injection.get e.sec).energy)))) ∧
        (noPending s = true → r'.entries.map Entry.worst = r.entries.map fun e =>
          worstAfter e.worst (frameOutcome false (s.sec e.sec) (t.sec e.sec)))

/-! ### Deferred application and silence -/

/-- The end of an episode (R94, R107): a frame lowers the signal exactly when it is up, the detector is CLEAR
and no section is WATCHING, INJECTING, RETURNING or RELEASING, and every service level is then FULL.
DEFERRED_APPLICATION (R164): an event that lowers the episode signal while a load is PENDING, the end of
the controller's work on a frame or a silence expiry in RUNNING, applies the image. -/
def Obligations.DeferredApplication : Prop :=
  (∀ (c : StepClass) (f : SampleFrame) (s : State), accepted c f s = true →
    ∃ t, exec (.sampleFrame f) s = .next t ∧
      (endsIn c f s = true ↔
        (s.controller.episode = true ∨ (s.configured = true ∧ t.detector.sagStart = true)) ∧
        t.detector.state = .clear ∧ ∀ k : Fin 4, (t.sec k).state ≠ .watching ∧
          (t.sec k).state ≠ .injecting ∧ (t.sec k).state ≠ .returningSlewing ∧
          (t.sec k).state ≠ .returningClosing ∧ (t.sec k).state ≠ .releasing) ∧
      (t.controller.episode = true ↔ endsIn c f s = false ∧
        (s.controller.episode = true ∨ (s.configured = true ∧ t.detector.sagStart = true))) ∧
      (endsIn c f s = true → ∀ k : Fin 4, (t.sec k).service = .full)) ∧
  ∀ (s : State) (table : TableId) (n : Nat), s.loader.load = .pending table n →
    (∀ (c : StepClass) (f : SampleFrame), accepted c f s = true → endsIn c f s = true →
      ∃ t, exec (.deferredApplication (.sample f)) s = .next t ∧ t.controller.episode = false ∧
        (∀ other, t.loader.tables.get other =
          if other = table then some (stagingImage n s.loader.staging)
          else s.loader.tables.get other) ∧
        t.loader.load = .idle ∧ t.loader.staging = [] ∧ t.loader.locks = s.loader.locks ∧
        t.reports .commitDone ⟨Word.ofNat table.number, 0⟩ = true) ∧
    (s.resetLine = false → s.link.timer.isSome = true → s.controller.run = .running →
      s.controller.episode = true →
      ∃ t, exec (.deferredApplication .silence) s = .next t ∧ t.controller.episode = false ∧
        (∀ other, t.loader.tables.get other =
          if other = table then some (stagingImage n s.loader.staging)
          else s.loader.tables.get other) ∧
        t.loader.load = .idle ∧ t.loader.staging = [] ∧ t.loader.locks = s.loader.locks ∧
        t.reports .commitDone ⟨Word.ofNat table.number, 0⟩ = true)

/-- SILENCE_EXPIRY: in RUNNING (R7, R37, R57, R100, R107, R122, R127, R154), in HALTED (R8), and of an idle
timer, which does not expire (R6). -/
def Obligations.SilenceExpiry : Prop :=
  (∀ s : State, s.resetLine = false → s.link.timer.isSome = true → s.controller.run = .running →
    ∃ t, exec .silenceExpiry s = .next t ∧
      t.link = { s.link with meas := .silent, timer := none } ∧
      t.front = s.front ∧ t.demand = s.demand ∧ t.store.level = s.store.level ∧
      t.tracker.live = s.tracker.live ∧ t.tracker.held = s.tracker.held ∧ t.tracker.ref = .tracking ∧
      (noPending s = true → t.tracker.lock = .unlocked ∧ t.tracker.incLive = s.tracker.incLive) ∧
      (s.tracker.lock ≠ .unlocked → t.reports .trackerUnlock ⟨0, 0⟩ = true) ∧
      t.detector.state = .clear ∧ t.detector.elapsed = s.detector.elapsed ∧
      t.detector.involved = s.detector.involved ∧ t.detector.suspended = s.detector.suspended ∧
      t.controller.run = .running ∧ t.controller.episode = false ∧
      (noPending s = true → ∀ k : Fin 4,
        ((s.sec k).state.active = true → (t.sec k).state = .bypassed ∧
          (t.sec k).lastLeave = .linkSilent ∧ (t.sec k).confirm = .none ∧
          (t.sec k).eligible = (if (s.sec k).state = .releasing then (s.sec k).eligible else true)) ∧
        ((s.sec k).state.active = false → (t.sec k).state = (s.sec k).state ∧
          (t.sec k).lastLeave = (s.sec k).lastLeave ∧ (t.sec k).confirm = (s.sec k).confirm ∧
          (t.sec k).pendingReq = (s.sec k).pendingReq)) ∧
      (∀ k : Fin 4, t.injection.get k =
        ⟨⟨0, 0, 0⟩, (s.injection.get k).uEff, ⟨.none, .none, .none⟩, false, 0⟩) ∧
      t.records.nextSeq = s.records.nextSeq ∧
      (∀ r, openRecord s.records.list = some r → ∃ r', t.records.list.getLast? = some r' ∧
        r'.isOpen = false ∧ r'.seq = r.seq ∧ r'.endCause = some .linkSilent ∧
        r'.episodeDuration = some (s.link.counter - r.startFrame) ∧
        r'.sagDuration = r.sagDuration) ∧
      t.reports .linkSilent ⟨0, 0⟩ = true ∧
      (anyActive s.controller.sections = false → t.outPort = []) ∧
      (anyActive s.controller.sections = true → t.outPort.length ≤ 2 ∧ t.outPort.head? =
        some (sealFrame ([if s.management.slot.isNone then 51 else 35, s.link.lastSeq]
          ++ [0, 0, 0, 0, 0, 0, 0, 0, 0, 0, 0, 0, 0, 0, 0, 0])))) ∧
  (∀ s : State, s.resetLine = false → s.link.timer.isSome = true → s.controller.run = .halted →
    exec .silenceExpiry s = .next { s with
      outPort := []
      link := { s.link with meas := .silent, timer := none }
      management := { s.management with
        alerts := s.management.alerts.set .linkSilent (some ⟨0, 0⟩) } }) ∧
  ∀ s : State, s.link.timer = none → exec .silenceExpiry s = .next { s with outPort := [] }

/-! ### The request slot -/

/-- READ_IDENT (R175, 11.2). -/
def Obligations.ReadIdentAnswer : Prop :=
  ∀ s : State, slotOpen s = true →
    exec .readIdent s = .next (s.taken (Request.plain 1 0 0 0) .ok [214, 416, 1, 4, 28, 32, 256])

/-- READ_STATUS and READ_SECTION (R174, R176, R177): the status and section payloads of 11.2, a section
outside 1..4 answered BAD_ARGUMENT, and nothing else changed. The items are those that stand when the
request is taken, also after a silence expiry (log 33). -/
def Obligations.StatusReads : Prop :=
  (∀ s : State, slotOpen s = true →
    exec .readStatus s = .next (s.taken (Request.plain 2 0 0 0) .ok (statusWords s)) ∧
    let ws := statusWords s
    ws.length = 34 ∧
      ws.getD 0 0 = Word.ofNat s.link.meas.code ∧ ws.getD 1 0 = s.link.lastSeq ∧
      ws.getD 2 0 ++ ws.getD 3 0 = s.link.counter ∧
      ws.getD 4 0 = Word.ofNat s.controller.run.code ∧ ws.getD 5 0 = mark s.configured ∧
      ws.getD 6 0 = mark s.controller.episode ∧
      (∀ k : Fin 4, ws.getD (7 + k.val) 0 = Word.ofNat (s.sec k).reported) ∧
      ws.getD 11 0 = Word.ofNat s.tracker.lock.code ∧ ws.getD 12 0 = Word.ofNat s.tracker.ref.code ∧
      ws.getD 13 0 = Word.ofNat s.detector.state.code ∧ ws.getD 17 0 = Word.ofNat s.store.level ∧
      ws.getD 21 0 = Word.ofNat s.records.list.length ∧ ws.getD 23 0 = s.records.nextSeq ∧
      ws.getD 24 0 = mark (openRecord s.records.list).isSome ∧
      (∀ t : TableId, (ws.getD 25 0).getLsbD t.number = s.valid t) ∧
      ws.getD 27 0 = Word.ofNat s.loader.load.code ∧
      ws.getD 30 0 = Word.ofNat s.loader.staging.length ∧
      (∀ a : AlertKind, (ws.getD 32 0).getLsbD a.number = (s.management.alerts.get a).isSome ∧
        (ws.getD 33 0).getLsbD a.number = s.management.mask.get a)) ∧
  (∀ (sec : Word) (k : Fin 4) (s : State), slotOpen s = true → sec.toNat = k.val + 1 →
    exec (.readSection sec) s =
      .next (s.taken (Request.plain 3 sec 0 0) .ok (sectionWords s k)) ∧
    let ws := sectionWords s k
    ws.length = 20 ∧
      ws.getD 0 0 = Word.ofNat (s.sec k).reported ∧
      ws.getD 1 0 = Word.ofNat (s.sec k).feedback.code ∧
      ws.getD 2 0 = Word.ofNat (s.sec k).confirm.code ∧
      ws.getD 3 0 = Word.ofNat (s.sec k).confirmTimer ∧ ws.getD 4 0 = mark (s.sec k).closeSeen ∧
      ws.getD 5 0 = Word.ofNat ((s.sec k).faultCause.getD .none).code ∧
      ws.getD 6 0 = Word.ofNat (s.sec k).pendingReq.code ∧ ws.getD 7 0 = mark (s.sec k).eligible ∧
      ws.getD 8 0 = mark (s.sec k).hold ∧ ws.getD 9 0 = Word.ofNat (s.sec k).lastLeave.code ∧
      ws.getD 10 0 = Word.ofNat (s.sec k).lastArm.code ∧
      ws.getD 11 0 = Word.ofNat (s.demand.get k).required ∧
      ws.getD 12 0 = Word.ofInt (s.injection.get k).refs.a ∧
      ws.getD 13 0 = Word.ofInt (s.injection.get k).refs.b ∧
      ws.getD 14 0 = Word.ofInt (s.injection.get k).refs.c ∧
      ws.getD 15 0 = Word.ofNat (s.injection.get k).uEff ∧
      ws.getD 17 0 = mark (s.injection.get k).limited ∧
      ws.getD 18 0 ++ ws.getD 19 0 = BitVec.ofInt 32 (s.injection.get k).energy) ∧
  ∀ (sec : Word) (s : State), slotOpen s = true → sec.toNat < 1 ∨ 4 < sec.toNat →
    exec (.readSection sec) s = .next (s.taken (Request.plain 3 sec 0 0) .badArgument [])

/-- READ_TABLE (R167): the tests in their order, then the words of the committed image. -/
def Obligations.ReadTableAnswer : Prop :=
  (∀ (table offset count : Word) (s : State), slotOpen s = true → 5 < table.toNat →
    exec (.readTable table offset count) s =
      .next (s.taken (Request.plain 4 table offset count) .badArgument [])) ∧
  ∀ (t : TableId) (table offset count : Word) (s : State), slotOpen s = true →
    table.toNat = t.number →
    (s.loader.tables.get t = none → exec (.readTable table offset count) s =
      .next (s.taken (Request.plain 4 table offset count) .refusedState [])) ∧
    (∀ image, s.loader.tables.get t = some image →
      (count.toNat < 1 ∨ 16 < count.toNat ∨ image.length < offset.toNat + count.toNat →
        exec (.readTable table offset count) s =
          .next (s.taken (Request.plain 4 table offset count) .badArgument [])) ∧
      (1 ≤ count.toNat → count.toNat ≤ 16 → offset.toNat + count.toNat ≤ image.length →
        exec (.readTable table offset count) s =
          .next (s.taken (Request.plain 4 table offset count) .ok
            (count :: (image.drop offset.toNat).take count.toNat))))

/-- FETCH_RECORD (R155): the oldest record is copied into the snapshot and answered in two parts, and the
list stands; an empty list is answered NOT_FOUND. -/
def Obligations.FetchRecordAnswer : Prop :=
  (∀ s : State, slotOpen s = true → s.records.list = [] →
    exec .fetchRecord s = .next (s.taken (Request.plain 5 0 0 0) .notFound [])) ∧
  ∀ (s : State) (r : Record) (newer : List Record), slotOpen s = true →
    s.records.list = r :: newer →
    exec .fetchRecord s = .next { s with
      outPort := []
      management := { s.management with
        slot := some (Request.plain 5 0 0 0)
        snapshot := some r
        queue := [⟨5, .ok, 1, 2, .recordHeader⟩, ⟨5, .ok, 2, 2, .recordEntries⟩] } }

/-- DISCARD_RECORD (R156): the table of the rule, row by row, and nothing else changed. -/
def Obligations.DiscardRecordAnswer : Prop :=
  (∀ (seq : Word) (s : State), slotOpen s = true → s.records.list = [] →
    exec (.discardRecord seq) s = .next (s.taken (Request.plain 6 seq 0 0) .notFound [])) ∧
  ∀ (seq : Word) (s : State) (r : Record) (newer : List Record), slotOpen s = true →
    s.records.list = r :: newer →
    (r.seq ≠ seq →
      exec (.discardRecord seq) s = .next (s.taken (Request.plain 6 seq 0 0) .notFound [])) ∧
    (r.seq = seq → r.isOpen = true →
      exec (.discardRecord seq) s = .next (s.taken (Request.plain 6 seq 0 0) .refusedState [])) ∧
    (r.seq = seq → r.isOpen = false →
      exec (.discardRecord seq) s = .next { s.taken (Request.plain 6 seq 0 0) .ok [] with
        records := { s.records with list := newer } })

/-! ### Run state and sections by request -/

/-- RUN (R79) and HALT (R80, R105, R108). -/
def Obligations.RunAndHalt : Prop :=
  (∀ s : State, slotOpen s = true →
    (s.configured = true → s.controller.run = .halted → exec .run s = .next
      { s.taken (Request.plain 7 0 0 0) .ok [] with
        controller := { s.controller with run := .running } }) ∧
    (s.configured = false ∨ s.controller.run = .running →
      exec .run s = .next (s.taken (Request.plain 7 0 0 0) .refusedState []))) ∧
  ∀ s : State, slotOpen s = true →
    ∃ t, exec .halt s = .next t ∧
      t = { s.taken (Request.plain 8 0 0 0) .ok [] with
        controller := t.controller
        records := t.records
        management := { (s.taken (Request.plain 8 0 0 0) .ok []).management with
          alerts := t.management.alerts } } ∧
      t.controller.run = .halted ∧ t.controller.episode = s.controller.episode ∧
      (∀ k : Fin 4, (t.sec k).eligible = false ∧ (t.sec k).pendingReq = .none ∧
        (t.sec k).hold = (s.sec k).hold ∧ (t.sec k).feedback = (s.sec k).feedback ∧
        (t.sec k).filterCount = (s.sec k).filterCount ∧ (t.sec k).service = (s.sec k).service ∧
        (t.sec k).faultCause = (s.sec k).faultCause ∧ (t.sec k).closeSeen = (s.sec k).closeSeen ∧
        (t.sec k).lastArm =
          (if (s.sec k).pendingReq = .arm then .discardedConditions else (s.sec k).lastArm) ∧
        ((s.sec k).state.carrying = true → (t.sec k).state = .releasing ∧
          (t.sec k).lastLeave = .halt ∧ (t.sec k).confirm = .closing ∧
          ((s.sec k).confirm = .closing → (t.sec k).confirmTimer = (s.sec k).confirmTimer) ∧
          t.reportsFrom .sectionReleased k .halt = true) ∧
        ((s.sec k).state = .armed ∨ (s.sec k).state = .watching →
          (t.sec k).state = .bypassed ∧ (t.sec k).lastLeave = .halt ∧
          t.reportsFrom .sectionReleased k .halt = true) ∧
        ((s.sec k).state = .out ∨ (s.sec k).state = .bypassed ∨ (s.sec k).state = .releasing ∨
            (s.sec k).state = .fault →
          (t.sec k).state = (s.sec k).state ∧ (t.sec k).lastLeave = (s.sec k).lastLeave ∧
          (t.sec k).confirm = (s.sec k).confirm)) ∧
      (∀ a : AlertKind, a ≠ .sectionReleased →
        t.management.alerts.get a = s.management.alerts.get a) ∧
      t.records.nextSeq = s.records.nextSeq ∧ t.records.list.length = s.records.list.length ∧
      t.records.list.dropLast = s.records.list.dropLast ∧
      (openRecord s.records.list = none → t.records = s.records) ∧
      (∀ r, openRecord s.records.list = some r → ∃ r', t.records.list.getLast? = some r' ∧
        r'.isOpen = true ∧ r'.seq = r.seq ∧
        r'.entries = r.entries.map fun e =>
          if (s.sec e.sec).state.carrying ∨ (s.sec e.sec).state = .armed ∨
              (s.sec e.sec).state = .watching
          then { e with worst := worse e.worst .releasedHalt } else e)

/-- RESTART (R5, R18, R39, R60, R81, R107, R110, R122, R146, R154, R157, R170, R178, R183). That the marks published for the latest frame (boundary, crossing, sag start, sag end)
are kept is the model's reading (log 30). -/
def Obligations.RestartEffects : Prop :=
  ∀ s : State, slotOpen s = true →
    ∃ t, exec .restart s = .next t ∧
      t.pending = s.pending ∧ t.resetLine = s.resetLine ∧ t.mntLine = s.mntLine ∧ t.outPort = [] ∧
      t.link = s.link ∧ t.demand = s.demand ∧ t.store = s.store ∧
      t.front = { s.front with
        supplyWin := ⟨⟨[], 0⟩, ⟨[], 0⟩, ⟨[], 0⟩⟩
        loadWin := Four.all ⟨⟨[], 0⟩, ⟨[], 0⟩, ⟨[], 0⟩⟩ } ∧
      t.tracker = { s.tracker with
        lock := .unlocked, good := 0, bad := 0, quiet := 0
        ref := .tracking, settle := 0, returnTimer := 0 } ∧
      t.detector = { s.detector with
        state := .clear, fast := ⟨0, 0, 0⟩, slow := ⟨0, 0, 0⟩, recovery := 0, suspended := false } ∧
      t.controller.run = .halted ∧ t.controller.episode = false ∧
      (∀ k : Fin 4, (t.sec k).eligible = false ∧ (t.sec k).pendingReq = .none ∧
        (t.sec k).overCount = 0 ∧ (t.sec k).hold = (s.sec k).hold ∧
        (t.sec k).feedback = (s.sec k).feedback ∧ (t.sec k).filterCount = (s.sec k).filterCount ∧
        (t.sec k).faultCause = (s.sec k).faultCause ∧ (t.sec k).closeSeen = (s.sec k).closeSeen ∧
        (t.sec k).service = (if s.controller.episode then .full else (s.sec k).service) ∧
        (t.sec k).lastArm =
          (if (s.sec k).pendingReq = .arm then .discardedConditions else (s.sec k).lastArm) ∧
        ((s.sec k).state.carrying = true → (t.sec k).state = .releasing ∧
          (t.sec k).lastLeave = .restart ∧ (t.sec k).confirm = .closing) ∧
        ((s.sec k).state = .armed ∨ (s.sec k).state = .watching →
          (t.sec k).state = .bypassed ∧ (t.sec k).lastLeave = .restart) ∧
        ((s.sec k).state = .out ∨ (s.sec k).state = .bypassed ∨ (s.sec k).state = .releasing ∨
            (s.sec k).state = .fault →
          (t.sec k).state = (s.sec k).state ∧ (t.sec k).lastLeave = (s.sec k).lastLeave ∧
          (t.sec k).confirm = (s.sec k).confirm ∧
          (t.sec k).confirmTimer = (s.sec k).confirmTimer)) ∧
      (∀ k : Fin 4, t.injection.get k =
        ⟨⟨0, 0, 0⟩, (s.injection.get k).uEff, ⟨.none, .none, .none⟩, false, 0⟩) ∧
      t.records.nextSeq = s.records.nextSeq ∧
      t.records.list.dropLast = s.records.list.dropLast ∧
      (openRecord s.records.list = none → t.records = s.records) ∧
      (∀ r, openRecord s.records.list = some r → t.records.list.getLast? = some
        { r with
          isOpen := false, endCause := some .restart
          episodeDuration := some (s.link.counter - r.startFrame) }) ∧
      t.loader = { s.loader with
        load := .idle, staging := [], sticky := ⟨false, false, false, false⟩ } ∧
      t.management = { s.management with
        slot := some (Request.plain 9 0 0 0), queue := [⟨9, .ok, 1, 1, .words []⟩]
        snapshot := none, alerts := PerKind.all none }

/-- ARM_SECTION (R101, log 18, log 36), CLEAR_FAULT (R104) and DISARM_SECTION (R103): the table of each rule,
the other sections untouched; a section outside 1..4 is answered BAD_ARGUMENT (R174). That an ended
confirm's timer reads 0 is the model's choice (log 11). -/
def Obligations.SectionRequests : Prop :=
  (((∀ (sec : Word) (k : Fin 4) (s : State), slotOpen s = true → sec.toNat = k.val + 1 →
     ((s.sec k).state = .bypassed ∧ s.controller.run = .running ∧ s.controller.episode = false ∧
         s.tracker.lock = .locked ∧ s.store.ready.get (s.classOf k) = true ∧
         (s.sec k).feedback = .closed ∧ (s.front.status.get k).ready = true →
       exec (.armSection sec) s = .next { s.taken (Request.plain 10 sec 0 0) .ok [] with
         controller := { s.controller with
           sections := s.controller.sections.set k
             { s.sec k with pendingReq := .arm, hold := false } } }) ∧
     (¬((s.sec k).state = .bypassed ∧ s.controller.run = .running ∧ s.controller.episode = false ∧
         s.tracker.lock = .locked ∧ s.store.ready.get (s.classOf k) = true ∧
         (s.sec k).feedback = .closed ∧ (s.front.status.get k).ready = true) →
       exec (.armSection sec) s = .next (s.taken (Request.plain 10 sec 0 0) .refusedState []))) ∧
   ∀ (sec : Word) (s : State), slotOpen s = true → sec.toNat < 1 ∨ 4 < sec.toNat →
     exec (.armSection sec) s = .next (s.taken (Request.plain 10 sec 0 0) .badArgument [])) ∧
   (∀ (sec : Word) (k : Fin 4) (s : State), slotOpen s = true → sec.toNat = k.val + 1 →
     ((s.sec k).state = .fault ∧ (s.sec k).feedback = .closed ∧
         (s.front.status.get k).bridgeFault = false →
       exec (.clearFault sec) s = .next { s.taken (Request.plain 12 sec 0 0) .ok [] with
         controller := { s.controller with
           sections := s.controller.sections.set k
             { s.sec k with
               state := .bypassed, faultCause := none, closeSeen := false
               confirm := .none, confirmTimer := 0, confirmFresh := false
               confirmTimedOut := false } } }) ∧
     (¬((s.sec k).state = .fault ∧ (s.sec k).feedback = .closed ∧
         (s.front.status.get k).bridgeFault = false) →
       exec (.clearFault sec) s = .next (s.taken (Request.plain 12 sec 0 0) .refusedState []))) ∧
   ∀ (sec : Word) (s : State), slotOpen s = true → sec.toNat < 1 ∨ 4 < sec.toNat →
     exec (.clearFault sec) s = .next (s.taken (Request.plain 12 sec 0 0) .badArgument [])) ∧
  (∀ (sec : Word) (k : Fin 4) (s : State), slotOpen s = true → sec.toNat = k.val + 1 →
    ((s.sec k).state = .out ∨ (s.sec k).state = .fault →
      exec (.disarmSection sec) s = .next (s.taken (Request.plain 11 sec 0 0) .refusedState [])) ∧
    ((s.sec k).state = .armed →
      exec (.disarmSection sec) s = .next { s.taken (Request.plain 11 sec 0 0) .ok [] with
        controller := { s.controller with
          sections := s.controller.sections.set k
            { s.sec k with pendingReq := .disarm, hold := true, eligible := false } } }) ∧
    ((s.sec k).state = .bypassed ∨ (s.sec k).state = .releasing →
      exec (.disarmSection sec) s = .next { s.taken (Request.plain 11 sec 0 0) .ok [] with
        controller := { s.controller with
          sections := s.controller.sections.set k
            { s.sec k with
              pendingReq := .none, hold := true, eligible := false
              lastArm := if (s.sec k).pendingReq = .arm then .withdrawn
                else (s.sec k).lastArm } } }) ∧
    ((s.sec k).state = .watching ∨ (s.sec k).state.carrying = true →
      ∃ t, exec (.disarmSection sec) s = .next t ∧
        t.link = s.link ∧ t.tracker = s.tracker ∧ t.detector = s.detector ∧ t.loader = s.loader ∧
        (∀ j : Fin 4, j ≠ k → t.sec j = s.sec j) ∧ t.controller.run = s.controller.run ∧
        t.controller.episode = s.controller.episode ∧
        t.management.queue = [⟨11, .ok, 1, 1, .words []⟩] ∧
        (t.sec k).hold = true ∧ (t.sec k).eligible = false ∧ (t.sec k).lastLeave = .request ∧
        (t.sec k).state = (if (s.sec k).state = .watching then .bypassed else .releasing) ∧
        ((s.sec k).state.carrying = true → (t.sec k).confirm = .closing) ∧
        t.reports .sectionReleased ⟨Word.ofNat (k.val + 1), 4⟩ = true)) ∧
  ∀ (sec : Word) (s : State), slotOpen s = true → sec.toNat < 1 ∨ 4 < sec.toNat →
    exec (.disarmSection sec) s = .next (s.taken (Request.plain 11 sec 0 0) .badArgument [])

/-! ### Table loading -/

/-- BEGIN_LOAD (R159): the tests in their order, and the word ranges of the six tables. -/
def Obligations.BeginLoadAnswer : Prop :=
  (∀ (t : TableId) (n : Nat), wordsInRange t n = true ↔
    (t = .calibration ∧ n = 56) ∨ (t = .supply ∧ n = 7) ∨ (t = .sections ∧ n = 48) ∨
      (t = .curves ∧ 1 ≤ n ∧ n ≤ 145) ∨ (t = .store ∧ n = 10) ∨ (t = .reference ∧ n = 8)) ∧
  (∀ (table words : Word) (s : State), slotOpen s = true → 5 < table.toNat →
    exec (.beginLoad table words) s =
      .next (s.taken (Request.plain 13 table words 0) .badArgument [])) ∧
  ∀ (t : TableId) (table words : Word) (s : State), slotOpen s = true → table.toNat = t.number →
    exec (.beginLoad table words) s = .next
      (if s.loader.load ≠ .idle then s.taken (Request.plain 13 table words 0) .loadOpen []
      else if s.loader.sticky.lockedTarget ∨ s.loader.sticky.sequence ∨ s.loader.sticky.content ∨
          s.loader.sticky.cross then
        s.taken (Request.plain 13 table words 0) .statusNotClear []
      else if s.loader.locks.get t ≠ .unlocked then
        { s.taken (Request.plain 13 table words 0) .locked [] with
          loader := { s.loader with sticky := { s.loader.sticky with lockedTarget := true } } }
      else if wordsInRange t words.toNat = false then
        s.taken (Request.plain 13 table words 0) .badArgument []
      else
        { s.taken (Request.plain 13 table words 0) .ok [] with
          loader := { s.loader with load := .opened t words.toNat, staging := [] } })

/-- LOAD_WORDS (R160, R186): the conditions in their order, and what every index of the buffer then reads
as. -/
def Obligations.LoadWordsAnswer : Prop :=
  ∀ (offset count : Word) (data : List Word) (s : State), slotOpen s = true → data.length = 16 →
    ((∀ t n, s.loader.load ≠ .opened t n) →
      exec (.loadWords offset count data) s = .next
        { s.taken ⟨14, offset, count, 0, data⟩ .noLoad [] with
          loader := { s.loader with sticky := { s.loader.sticky with sequence := true } } }) ∧
    ∀ t n, s.loader.load = .opened t n →
      (count.toNat < 1 ∨ 16 < count.toNat ∨ n < offset.toNat + count.toNat →
        exec (.loadWords offset count data) s = .next
          { s.taken ⟨14, offset, count, 0, data⟩ .badArgument [] with
            loader := { s.loader with sticky := { s.loader.sticky with sequence := true } } }) ∧
      (1 ≤ count.toNat → count.toNat ≤ 16 → offset.toNat + count.toNat ≤ n →
        ∃ u, exec (.loadWords offset count data) s = .next u ∧
          u = { s.taken ⟨14, offset, count, 0, data⟩ .ok [] with
            loader := { s.loader with staging := u.loader.staging } } ∧
          ∀ i : Nat, readStaging i u.loader.staging =
            if offset.toNat ≤ i ∧ i < offset.toNat + count.toNat
            then some (data.getD (i - offset.toNat) 0) else readStaging i s.loader.staging)

/-- What the content and cross-table tests of a commit require of each table's image (R10, R19, R40, R62, R63,
R65, R77, R129, R162, R186). -/
def Obligations.TableImageTests : Prop :=
  (∀ image : List Word,
    let w (i : Nat) : Nat := (image.getD i 0).toNat
    contentValid .calibration image = true ∧
    (contentValid .supply image = true ↔
      w 0 ≤ 1 ∧ 50 ≤ w 1 ∧ w 1 ≤ 500 ∧ 1 ≤ w 2 ∧ w 2 ≤ 8 ∧ 500 ≤ w 3 ∧ w 3 ≤ 980 ∧
      w 3 + 10 ≤ w 4 ∧ w 4 ≤ 1000 ∧ 1 ≤ w 5 ∧ w 5 ≤ 32 ∧ 1 ≤ w 6 ∧ w 6 ≤ 64) ∧
    (contentValid .sections image = true ↔ ∀ k : Fin 4,
      let e (j : Nat) : Nat := w (12 * k.val + j)
      e 0 ≤ 1 ∧ e 1 ≤ 3 ∧ e 2 ≤ 1 ∧ 900 ≤ e 3 ∧ e 3 ≤ 1050 ∧ 100 ≤ e 4 ∧ e 4 ≤ 800 ∧
      1000 ≤ e 5 ∧ e 5 ≤ 3500 ∧ e 6 ≤ 7 ∧ e 7 ≤ 200 ∧ 1 ≤ e 8 ∧ e 8 ≤ 64 ∧ 1 ≤ e 9 ∧
      e 9 ≤ 64 ∧ 1 ≤ e 10 ∧ e 10 ≤ 8 ∧ e 11 ≤ 1) ∧
    (contentValid .store image = true ↔
      300 ≤ w 0 ∧ w 0 ≤ 900 ∧ 10 ≤ w 1 ∧ w 1 ≤ 200 ∧
      (∀ c : Fin 4, w (2 + c.val) ≤ 1000 ∧ w (6 + c.val) ≤ 1000 ∧ w (6 + c.val) ≤ w (2 + c.val)) ∧
      w 2 ≤ w 3 ∧ w 3 ≤ w 4 ∧ w 4 ≤ w 5 ∧ w 6 ≤ w 7 ∧ w 7 ≤ w 8 ∧ w 8 ≤ w 9) ∧
    (contentValid .reference image = true ↔
      4 ≤ w 0 ∧ w 0 ≤ 40 ∧ 128 ≤ w 1 ∧ w 1 ≤ 2048 ∧ 2 ≤ w 2 ∧ w 2 ≤ 8 ∧ 200 ≤ w 3 ∧ w 3 ≤ 800 ∧
      1 ≤ w 4 ∧ w 4 ≤ 16 ∧ 1 ≤ w 5 ∧ w 5 ≤ 256 ∧ 4 ≤ w 6 ∧ w 6 ≤ 255 ∧ 200 ≤ w 7 ∧ w 7 ≤ 2000)) ∧
  (∀ image : List Word, contentValid .curves image = true →
    ∃ cs, walkCurves image = some cs ∧ image = curveImage cs ∧ curvesAllowed cs) ∧
  (∀ cs : List Curve, curvesAllowed cs →
    contentValid .curves (curveImage cs) = true ∧ walkCurves (curveImage cs) = some cs) ∧
  ∀ (s : State) (image : List Word),
    (∀ t ∈ [TableId.calibration, .supply, .store, .reference], crossValid s t image = true) ∧
    (crossValid s .sections image = true ↔
      ∀ curves, s.loader.tables.get .curves = some curves → ∀ k : Fin 4,
        (image.getD (12 * k.val + 6) 0).toNat < (curves.getD 0 0).toNat) ∧
    (crossValid s .curves image = true ↔
      ∀ secs, s.loader.tables.get .sections = some secs → ∀ k : Fin 4,
        (secs.getD (12 * k.val + 6) 0).toNat < (image.getD 0 0).toNat)

/-- COMMIT_TABLE (R161, R162, R163): the tests in their order; an accepted image waits while the episode
signal is up, and is the table's contents at once while it is down. -/
def Obligations.CommitTableAnswer : Prop :=
  ∀ (table : Word) (s : State), slotOpen s = true →
    ((∀ t n, s.loader.load ≠ .opened t n) →
      exec (.commitTable table) s = .next (s.taken (Request.plain 15 table 0 0) .noLoad [])) ∧
    ∀ t n, s.loader.load = .opened t n →
      (table.toNat ≠ t.number →
        exec (.commitTable table) s = .next { s.taken (Request.plain 15 table 0 0) .badArgument [] with
          loader := { s.loader with sticky := { s.loader.sticky with sequence := true } } }) ∧
      (table.toNat = t.number → s.loader.locks.get t ≠ .unlocked →
        exec (.commitTable table) s = .next { s.taken (Request.plain 15 table 0 0) .locked [] with
          loader := { s.loader with
            load := .idle, staging := []
            sticky := { s.loader.sticky with lockedTarget := true } } }) ∧
      (table.toNat = t.number → s.loader.locks.get t = .unlocked →
        ((∃ i, i < n ∧ readStaging i s.loader.staging = none) →
          exec (.commitTable table) s = .next { s.taken (Request.plain 15 table 0 0) .incomplete [] with
            loader := { s.loader with sticky := { s.loader.sticky with sequence := true } } }) ∧
        ((∀ i, i < n → readStaging i s.loader.staging ≠ none) →
          (contentValid t (stagingImage n s.loader.staging) = false →
            exec (.commitTable table) s = .next
              { s.taken (Request.plain 15 table 0 0) .tableInvalid [] with
                loader := { s.loader with
                  load := .idle, staging := []
                  sticky := { s.loader.sticky with content := true } } }) ∧
          (contentValid t (stagingImage n s.loader.staging) = true →
            (crossValid s t (stagingImage n s.loader.staging) = false →
              exec (.commitTable table) s = .next
                { s.taken (Request.plain 15 table 0 0) .tableInvalid [] with
                  loader := { s.loader with
                    load := .idle, staging := []
                    sticky := { s.loader.sticky with cross := true } } }) ∧
            (crossValid s t (stagingImage n s.loader.staging) = true →
              (s.controller.episode = true →
                exec (.commitTable table) s = .next
                  { s.taken (Request.plain 15 table 0 0) .pending [] with
                    loader := { s.loader with load := .pending t n } }) ∧
              (s.controller.episode = false →
                ∃ u, exec (.commitTable table) s = .next u ∧
                  u.management = (s.taken (Request.plain 15 table 0 0) .ok []).management ∧
                  u.loader = { s.loader with
                    load := .idle, staging := []
                    tables := s.loader.tables.set t (some (stagingImage n s.loader.staging)) })))))

/-- What the owner of a table does when a commit applies its image at once (R10, R36, R59, R66, R78, R130, R131). -/
def Obligations.TableReactions : Prop :=
  ∀ (t : TableId) (n : Nat) (table : Word) (s : State), slotOpen s = true →
    table.toNat = t.number → s.loader.load = .opened t n → s.loader.locks.get t = .unlocked →
    stagingComplete n s.loader.staging = true →
    contentValid t (stagingImage n s.loader.staging) = true →
    crossValid s t (stagingImage n s.loader.staging) = true → s.controller.episode = false →
    ∃ u, exec (.commitTable table) s = .next u ∧
    u.front = s.front ∧ u.records = s.records ∧ u.injection = s.injection ∧ u.demand = s.demand ∧
    u.link = s.link ∧ u.controller.run = s.controller.run ∧ u.controller.episode = false ∧
    (t ≠ .supply → u.detector = s.detector) ∧ (t ≠ .store → u.store = s.store) ∧
    (t ≠ .reference → u.tracker = s.tracker) ∧
    (t = .supply → u.detector = { s.detector with
      fast := ⟨0, 0, 0⟩, slow := ⟨0, 0, 0⟩, recovery := 0
      state := if s.detector.state = .suspect then .clear else s.detector.state }) ∧
    (t = .store → u.store.level = s.store.level ∧ u.store.band = s.store.band ∧
      u.store.ready = s.store.ready ∧ u.store.lowArmed = s.store.lowArmed ∧
      ∃ l, u.store.levels = some l ∧ l.vmin = fieldOf (stagingImage n s.loader.staging) 0 * 8192 / 1000 ∧
        ∀ c : Fin 4, l.degrade.get c = fieldOf (stagingImage n s.loader.staging) (2 + c.val) ∧
          l.release.get c = fieldOf (stagingImage n s.loader.staging) (6 + c.val) ∧
          l.ready.get c = min (fieldOf (stagingImage n s.loader.staging) (6 + c.val) + fieldOf (stagingImage n s.loader.staging) 1) 1000) ∧
    (t = .reference → u.tracker = { s.tracker with
      incLive := (max ((384 : Int) - fieldOf (stagingImage n s.loader.staging) 0)
        (min ((384 : Int) + fieldOf (stagingImage n s.loader.staging) 0) s.tracker.incLive)).toNat
      incHeld := (max ((384 : Int) - fieldOf (stagingImage n s.loader.staging) 0)
        (min ((384 : Int) + fieldOf (stagingImage n s.loader.staging) 0) s.tracker.incHeld)).toNat
      lock := .locking, good := 0, bad := 0, quiet := 0 }) ∧
    ∀ k : Fin 4,
      (t ≠ .sections → u.sec k =
        if s.configured = false ∧ u.configured = true ∧ u.inService k = true ∧ (s.sec k).state = .out
        then { s.sec k with state := .bypassed } else s.sec k) ∧
      (t = .sections →
        (u.configured = false → u.sec k = s.sec k) ∧
        (u.configured = true → u.inService k = true → u.sec k =
          if (s.sec k).state = .out then { s.sec k with state := .bypassed } else s.sec k) ∧
        (u.configured = true → u.inService k = false →
          (u.sec k).state = .out ∧
          ((s.sec k).state = .out → u.sec k = s.sec k) ∧
          ((s.sec k).state ≠ .out → (u.sec k).lastLeave = .table ∧ (u.sec k).confirm = .none ∧
            (u.sec k).pendingReq = .none ∧ (u.sec k).eligible = false ∧ (u.sec k).overCount = 0 ∧
            (u.sec k).faultCause = none ∧ (u.sec k).hold = (s.sec k).hold ∧
            (u.sec k).feedback = (s.sec k).feedback)))

/-- DROP_LOAD (R165) and CLEAR_LOAD_FLAGS (R166). -/
def Obligations.DropLoadAndClearFlags : Prop :=
  (∀ s : State, slotOpen s = true →
    (s.loader.load = .idle →
      exec .dropLoad s = .next (s.taken (Request.plain 16 0 0 0) .noLoad [])) ∧
    (s.loader.load ≠ .idle →
      exec .dropLoad s = .next { s.taken (Request.plain 16 0 0 0) .ok [] with
        loader := { s.loader with load := .idle, staging := [] } })) ∧
  ∀ s : State, slotOpen s = true →
    exec .clearLoadFlags s = .next { s.taken (Request.plain 19 0 0 0) .ok [] with
      loader := { s.loader with sticky := ⟨false, false, false, false⟩ } }

/-- LOCK_TABLE (R168): the higher of the present level and the argument; a level other than LOCKED or FIXED,
or a table outside 0..5, is answered BAD_ARGUMENT. UNLOCK_TABLE (R169), with the MNT line as it stands
when the request is taken (log 5). A FIXED table becomes UNLOCKED only by a power-on reset or by
UNLOCK_TABLE with MNT asserted (R169). -/
def Obligations.TableLocks : Prop :=
  (((∀ (t : TableId) (table level : Word) (s : State), slotOpen s = true → table.toNat = t.number →
     level = 1 ∨ level = 2 →
     exec (.lockTable table level) s = .next
       { s.taken (Request.plain 17 table level 0) .ok [] with
         loader := { s.loader with
           locks := s.loader.locks.set t
             (if level = 2 ∨ s.loader.locks.get t = .fixed then .fixed else .locked) } }) ∧
   ∀ (table level : Word) (s : State), slotOpen s = true →
     5 < table.toNat ∨ (level ≠ 1 ∧ level ≠ 2) →
     exec (.lockTable table level) s =
       .next (s.taken (Request.plain 17 table level 0) .badArgument [])) ∧
   (∀ (table : Word) (mnt : Bool) (s : State), slotOpen s = true → 5 < table.toNat →
     exec (.unlockTable table mnt) s = .next
       { s.taken (Request.plain 18 table 0 0) .badArgument [] with mntLine := mnt }) ∧
   ∀ (t : TableId) (table : Word) (mnt : Bool) (s : State), slotOpen s = true →
     table.toNat = t.number →
     (s.loader.locks.get t = .fixed → mnt = false →
       exec (.unlockTable table mnt) s = .next
         { s.taken (Request.plain 18 table 0 0) .locked [] with mntLine := mnt }) ∧
     (s.loader.locks.get t ≠ .fixed ∨ mnt = true →
       exec (.unlockTable table mnt) s = .next
         { s.taken (Request.plain 18 table 0 0) .ok [] with
           mntLine := mnt
           loader := { s.loader with locks := s.loader.locks.set t .unlocked } })) ∧
  ∀ (c : Instr) (s : State) (table : TableId), s.loader.locks.get table = .fixed →
    mayUnfix c s.mntLine table = false →
    ∃ t, exec c s = .next t ∧ t.loader.locks.get table = .fixed

/-! ### Alert mask and flags -/

/-- Every MANAGE frame that finds the slot occupied is discarded with REQUEST_OVERRUN (R172), and one whose
code names no request is answered UNKNOWN_REQUEST and has no effect (R174). SET_ALERT_MASK and
CLEAR_ALERTS (R180, R186). -/
def Obligations.OverrunUnknownAndAlertRequests : Prop :=
  ((∀ (c : Instr) (s : State), isRequest c = true → s.resetLine = false →
     s.management.slot.isSome = true →
     exec c s = .next { s with
       outPort := []
       mntLine := mntAfter c s.mntLine
       management := { s.management with
         alerts := s.management.alerts.set .requestOverrun (some ⟨0, 0⟩) } }) ∧
   ∀ (code a b c : Word) (data : List Word) (s : State), slotOpen s = true → data.length = 16 →
     code.toNat = 0 ∨ 21 < code.toNat →
     exec (.unknownRequest code a b c data) s =
       .next (s.taken ⟨code, a, b, c, data⟩ .unknownRequest [])) ∧
  (∀ (marks : Word) (s : State), slotOpen s = true → 2048 ≤ marks.toNat →
    exec (.setAlertMask marks) s = .next (s.taken (Request.plain 20 marks 0 0) .badArgument []) ∧
    exec (.clearAlerts marks) s = .next (s.taken (Request.plain 21 marks 0 0) .badArgument [])) ∧
  ∀ (marks : Word) (s : State), slotOpen s = true → marks.toNat < 2048 →
    (∃ t, exec (.setAlertMask marks) s = .next t ∧
      t = { s.taken (Request.plain 20 marks 0 0) .ok [] with
        management := { (s.taken (Request.plain 20 marks 0 0) .ok []).management with
          mask := t.management.mask } } ∧
      ∀ a : AlertKind, t.management.mask.get a = marks.getLsbD a.number) ∧
    ∃ t, exec (.clearAlerts marks) s = .next t ∧
      t = { s.taken (Request.plain 21 marks 0 0) .ok [] with
        management := { (s.taken (Request.plain 21 marks 0 0) .ok []).management with
          alerts := t.management.alerts } } ∧
      ∀ a : AlertKind, t.management.alerts.get a =
        if marks.getLsbD a.number then none else s.management.alerts.get a

/-! ### Laws that every step keeps -/

/-- Every step keeps the level windows lawful: at most 64 values, with S the sum of their squares (R14). -/
def Obligations.WindowsStayLawful : Prop :=
  ∀ s t : State, windowsLawful s = true → step s = .next t → windowsLawful t = true

/-- Every step keeps the loader lawful: the staging buffer in canonical form, no written word at or above
N, empty in IDLE, complete in PENDING (R158). -/
def Obligations.LoaderStaysLawful : Prop :=
  ∀ s t : State, loaderLawful s = true → step s = .next t → loaderLawful t = true

/-- Every step keeps at most 32 records with consecutive sequence numbers (R147). -/
def Obligations.RecordsStayConsecutive : Prop :=
  ∀ s t : State, recordsLawful s = true → step s = .next t → recordsLawful t = true

/-- Every step keeps at most one record OPEN, the newest, exactly while an episode is in progress (R148),
and a state lawful outside an episode: detector CLEAR or SUSPECT, no section WATCHING, INJECTING or
RETURNING, every service level FULL (R94, R107). -/
def Obligations.EpisodeLawsStay : Prop :=
  ∀ s t : State, step s = .next t →
    (openExactlyInEpisode s = true → openExactlyInEpisode t = true) ∧
    (episodeLawful s = true → episodeLawful t = true)

/-- Every step keeps every section out of ARMED, WATCHING, INJECTING and RETURNING while HALTED (R80), and
OUT while the engine is not configured (R78, R128). -/
def Obligations.SectionLawsStay : Prop :=
  ∀ s t : State, step s = .next t →
    (haltedLawful s = true → haltedLawful t = true) ∧
    (unconfiguredLawful s = true → unconfiguredLawful t = true)

/-- Every step keeps the request slot occupied exactly while the answer queue holds a part (R171). -/
def Obligations.SlotStaysLawful : Prop :=
  ∀ s t : State, slotLawful s = true → step s = .next t → slotLawful t = true

/-- Every step keeps the tables in use and a PENDING image valid, every curve number below curve_count (R65,
R77, R162), and the allocator's levels those of the Store Table in use (R130). -/
def Obligations.TablesStayLawful : Prop :=
  ∀ s t : State, tablesLawful s = true → storeLawful s = true → loaderLawful s = true →
    step s = .next t → tablesLawful t = true ∧ storeLawful t = true

/-- Every step keeps both angles below 49152, F within 0..1000, and every reference within its U_eff
(00 section 4.4, R117, R133). -/
def Obligations.RangesStayLawful : Prop :=
  ∀ s t : State, rangesLawful s = true → step s = .next t → rangesLawful t = true
end

