-- ==== Sys2Proof/Laws/Arith.lean ====
section
/-! SUPPORT. What the arithmetic of the Conventions gives: bounds of a clamp, the nearest integer,
    angles,
the integer square root. -/

namespace Sys2Proof.Machine

/-! ### Clamps and angles -/

/-- A clamped value lies in its interval. -/
theorem clampInt_mem {lo hi : Int} (x : Int) (h : lo ≤ hi) : lo ≤ clampInt lo hi x ∧ clampInt lo hi x ≤
    hi := by
  unfold clampInt
  omega

/-- A value in the interval is not moved. -/
theorem clampInt_of_mem {lo hi x : Int} (h₁ : lo ≤ x) (h₂ : x ≤ hi) : clampInt lo hi x = x := by
  unfold clampInt
  omega

/-- A clamped reference lies within its limit (R117). -/
theorem clampRef_natAbs_le (uEff : Nat) (u : Int) : (clampRef uEff u).natAbs ≤ uEff := by
  unfold clampRef clampInt
  omega

/-- An angle lies below one cycle. -/
theorem angle_lt (x : Int) : angle x < 49152 := by
  unfold angle Config.cycle
  omega

/-- An angle is its sum modulo one cycle. -/
theorem angle_eq (x : Int) : (angle x : Int) = x % 49152 := by
  unfold angle Config.cycle
  omega

/-- The angle of a natural number. -/
theorem angle_natCast (n : Nat) : angle (n : Int) = n % 49152 := by
  unfold angle Config.cycle
  omega

/-- The wrapped form lies within -24576..24575 and stands for the same angle. -/
theorem wrapped_spec {a : Nat} (h : a < 49152) :
    -24576 ≤ wrapped a ∧ wrapped a ≤ 24575 ∧ wrapped a % 49152 = a := by
  unfold wrapped Config.cycle
  split <;> omega

/-- The store level never exceeds 1000 (R133). -/
theorem storeLevel_le (vmin : Nat) (v : Int) : storeLevel vmin v ≤ 1000 := by
  unfold storeLevel
  split
  · omega
  · exact Nat.min_le_left _ _

/-! ### The nearest integer -/

/-- The rounded quotient is nearest, and a tie goes away from zero (00 section 4.6). -/
theorem roundDiv_spec (n : Int) {d : Nat} (hd : 0 < d) :
    (2 * (d * roundDiv n d - n)).natAbs ≤ d ∧
    ((2 * (d * roundDiv n d - n)).natAbs = d → n.natAbs < (d * roundDiv n d).natAbs) := by
  have hq : 2 * d * ((2 * n.natAbs + d) / (2 * d)) ≤ 2 * n.natAbs + d := Nat.mul_div_le _ _
  have hr : 2 * n.natAbs + d < 2 * d * ((2 * n.natAbs + d) / (2 * d)) + 2 * d := by
    have := Nat.lt_mul_div_succ (2 * n.natAbs + d) (by omega : 0 < 2 * d)
    rw [Nat.mul_succ] at this
    exact this
  generalize hv : (2 * n.natAbs + d) / (2 * d) = q at hq hr
  have hm : 2 * d * q = 2 * (d * q) := by rw [Nat.mul_assoc]
  rw [hm] at hq hr
  unfold roundDiv
  rw [hv]
  split
  · have hp : (d : Int) * -(q : Int) = -((d * q : Nat) : Int) := by
      rw [Int.mul_neg, Int.natCast_mul]
    rw [hp]
    generalize d * q = p at *
    omega
  · have hp : (d : Int) * (q : Int) = ((d * q : Nat) : Int) := by rw [Int.natCast_mul]
    rw [hp]
    generalize d * q = p at *
    omega

/-! ### The integer square root (R15) -/

/-- The bits decided so far stay a root from below and from above. -/
theorem isqrtBits_spec (m : Nat) (fuel root : Nat) (h₁ : root * root ≤ m)
    (h₂ : m < (root + 2 ^ fuel) * (root + 2 ^ fuel)) :
    isqrtBits m fuel root * isqrtBits m fuel root ≤ m ∧
    m < (isqrtBits m fuel root + 1) * (isqrtBits m fuel root + 1) := by
  induction fuel generalizing root with
  | zero => exact ⟨h₁, by simpa [isqrtBits] using h₂⟩
  | succ fuel ih =>
    have hp : root + 2 ^ (fuel + 1) = root + 2 ^ fuel + 2 ^ fuel := by rw [Nat.pow_succ]; omega
    rw [hp] at h₂
    unfold isqrtBits
    split
    · rename_i h
      exact ih _ h h₂
    · rename_i h
      exact ih _ h₁ (Nat.lt_of_not_le h)

/-- `isqrt m` is the largest integer whose square does not exceed `m` (R15). -/
theorem isqrt_spec (m : Nat) : isqrt m * isqrt m ≤ m ∧ m < (isqrt m + 1) * (isqrt m + 1) := by
  refine isqrtBits_spec m _ 0 (Nat.zero_le _) ?_
  have hlt : m < 2 ^ (m.log2 + 1) := Nat.lt_log2_self
  have hle : 2 ^ (m.log2 + 1) ≤ 2 ^ (2 * (m.log2 / 2 + 1)) :=
    Nat.pow_le_pow_right (by decide) (by omega)
  have hsq : 2 ^ (2 * (m.log2 / 2 + 1)) = 2 ^ (m.log2 / 2 + 1) * 2 ^ (m.log2 / 2 + 1) := by
    rw [Nat.two_mul, Nat.pow_add]
  simp only [Nat.zero_add]
  omega

end Sys2Proof.Machine
end

