-- ==== Sys2Proof/Laws/Families.lean ====
section
/-! SUPPORT. The families of like things: reading after replacing, building and mapping. -/

namespace Sys2Proof.Machine

variable {α β : Type}

@[simp] theorem Phases.get_all (v : α) (p : Phase) : (Phases.all v).get p = v := by cases p <;> rfl
@[simp] theorem Phases.get_build (g : Phase → α) (p : Phase) : (Phases.build g).get p = g p := by
  cases p <;> rfl

/-- Two families that agree at every phase are equal. -/
theorem Phases.ext_get {x y : Phases α} (h : ∀ p, x.get p = y.get p) : x = y := by
  cases x; cases y
  have ha := h .A; have hb := h .B; have hc := h .C
  simp only [Phases.get] at ha hb hc
  simp [ha, hb, hc]

@[simp] theorem Four.get_all (v : α) (i : Fin 4) : (Four.all v).get i = v := by
  match i with | 0 | 1 | 2 | 3 => rfl
@[simp] theorem Four.get_build (g : Fin 4 → α) (i : Fin 4) : (Four.build g).get i = g i := by
  match i with | 0 | 1 | 2 | 3 => rfl
@[simp] theorem Four.get_map (g : α → β) (x : Four α) (i : Fin 4) : (x.map g).get i = g (x.get i) := by
  match i with | 0 | 1 | 2 | 3 => rfl

theorem Four.get_set (x : Four α) (i j : Fin 4) (v : α) :
    (x.set i v).get j = if i = j then v else x.get j := by
  match i, j with
  | 0, 0 | 0, 1 | 0, 2 | 0, 3 | 1, 0 | 1, 1 | 1, 2 | 1, 3
  | 2, 0 | 2, 1 | 2, 2 | 2, 3 | 3, 0 | 3, 1 | 3, 2 | 3, 3 => rfl

@[simp] theorem Four.get_set_self (x : Four α) (i : Fin 4) (v : α) : (x.set i v).get i = v := by
  rw [Four.get_set, if_pos rfl]

theorem Four.get_set_of_ne (x : Four α) {i j : Fin 4} (v : α) (h : i ≠ j) :
    (x.set i v).get j = x.get j := by
  rw [Four.get_set, if_neg h]

/-- Two families that agree at every index are equal. -/
theorem Four.ext_get {x y : Four α} (h : ∀ i, x.get i = y.get i) : x = y := by
  cases x; cases y
  have h0 := h 0; have h1 := h 1; have h2 := h 2; have h3 := h 3
  simp only [Four.get] at h0 h1 h2 h3
  simp [h0, h1, h2, h3]

/-- A property of all four listed things is one of each. -/
theorem Four.all_toList (x : Four α) (p : α → Bool) :
    x.toList.all p = true ↔ ∀ i, p (x.get i) = true := by
  constructor
  · intro h i
    simp only [Four.toList, List.all_cons, List.all_nil, Bool.and_true, Bool.and_eq_true] at h
    match i with
    | 0 => exact h.1
    | 1 => exact h.2.1
    | 2 => exact h.2.2.1
    | 3 => exact h.2.2.2
  · intro h
    simp only [Four.toList, List.all_cons, List.all_nil, Bool.and_true, Bool.and_eq_true]
    exact ⟨h 0, h 1, h 2, h 3⟩

/-- A property of all three listed things is one of each. -/
theorem Phases.all_toList (x : Phases α) (p : α → Bool) :
    x.toList.all p = true ↔ ∀ i, p (x.get i) = true := by
  constructor
  · intro h i
    simp only [Phases.toList, List.all_cons, List.all_nil, Bool.and_true, Bool.and_eq_true] at h
    cases i
    · exact h.1
    · exact h.2.1
    · exact h.2.2
  · intro h
    simp only [Phases.toList, List.all_cons, List.all_nil, Bool.and_true, Bool.and_eq_true]
    exact ⟨h .A, h .B, h .C⟩

@[simp] theorem Tables.get_all (v : α) (t : TableId) : (Tables.all v).get t = v := by cases t <;> rfl

theorem Tables.get_set (x : Tables α) (t u : TableId) (v : α) :
    (x.set t v).get u = if t = u then v else x.get u := by
  cases t <;> cases u <;> rfl

@[simp] theorem Tables.get_set_self (x : Tables α) (t : TableId) (v : α) : (x.set t v).get t = v := by
  cases t <;> rfl

@[simp] theorem PerKind.get_all (v : α) (k : AlertKind) : (PerKind.all v).get k = v := by cases k <;>
    rfl
@[simp] theorem PerKind.get_build (g : AlertKind → α) (k : AlertKind) : (PerKind.build g).get k = g k
    := by
  cases k <;> rfl

theorem PerKind.get_set (x : PerKind α) (k j : AlertKind) (v : α) :
    (x.set k v).get j = if k = j then v else x.get j := by
  cases k <;> cases j <;> rfl

@[simp] theorem PerKind.get_set_self (x : PerKind α) (k : AlertKind) (v : α) : (x.set k v).get k = v :=
    by
  cases k <;> rfl

/-- The table of an identifier is the one with that number. -/
theorem TableId.ofNat?_number (t : TableId) : TableId.ofNat? t.number = some t := by cases t <;> rfl

/-- Every table number lies in 0..5. -/
theorem TableId.number_le (t : TableId) : t.number ≤ 5 := by cases t <;> decide

/-- No identifier outside 0..5 names a table. -/
theorem TableId.ofNat?_eq_none {n : Nat} (h : 5 < n) : TableId.ofNat? n = none := by
  unfold TableId.ofNat?
  split <;> first | omega | rfl

/-- Section k is named by the argument k. -/
theorem sectionArg_of_toNat {w : Word} {k : Fin 4} (h : w.toNat = k.val + 1) : sectionArg w = some k :=
    by
  unfold sectionArg
  rw [h]
  match k with | 0 | 1 | 2 | 3 => rfl

/-- An argument outside 1..4 names no section. -/
theorem sectionArg_eq_none {w : Word} (h : w.toNat < 1 ∨ 4 < w.toNat) : sectionArg w = none := by
  unfold sectionArg
  split <;> first | omega | rfl

end Sys2Proof.Machine
end

