-- ==== Sys2Proof/Laws/State.lean ====
section
/-! SUPPORT. What each elementary update of the engine leaves in each field: true by definition, so
    that no
proof unfolds a record update. -/

namespace Sys2Proof.Machine

/-! ### State.raise -/

@[simp] theorem pending_raise (s : State) (k : AlertKind) (p : Payload) :
    (s.raise k p).pending = s.pending := rfl
@[simp] theorem resetLine_raise (s : State) (k : AlertKind) (p : Payload) :
    (s.raise k p).resetLine = s.resetLine := rfl
@[simp] theorem mntLine_raise (s : State) (k : AlertKind) (p : Payload) :
    (s.raise k p).mntLine = s.mntLine := rfl
@[simp] theorem outPort_raise (s : State) (k : AlertKind) (p : Payload) :
    (s.raise k p).outPort = s.outPort := rfl
@[simp] theorem link_raise (s : State) (k : AlertKind) (p : Payload) :
    (s.raise k p).link = s.link := rfl
@[simp] theorem front_raise (s : State) (k : AlertKind) (p : Payload) :
    (s.raise k p).front = s.front := rfl
@[simp] theorem tracker_raise (s : State) (k : AlertKind) (p : Payload) :
    (s.raise k p).tracker = s.tracker := rfl
@[simp] theorem detector_raise (s : State) (k : AlertKind) (p : Payload) :
    (s.raise k p).detector = s.detector := rfl
@[simp] theorem demand_raise (s : State) (k : AlertKind) (p : Payload) :
    (s.raise k p).demand = s.demand := rfl
@[simp] theorem controller_raise (s : State) (k : AlertKind) (p : Payload) :
    (s.raise k p).controller = s.controller := rfl
@[simp] theorem injection_raise (s : State) (k : AlertKind) (p : Payload) :
    (s.raise k p).injection = s.injection := rfl
@[simp] theorem store_raise (s : State) (k : AlertKind) (p : Payload) :
    (s.raise k p).store = s.store := rfl
@[simp] theorem records_raise (s : State) (k : AlertKind) (p : Payload) :
    (s.raise k p).records = s.records := rfl
@[simp] theorem loader_raise (s : State) (k : AlertKind) (p : Payload) :
    (s.raise k p).loader = s.loader := rfl
@[simp] theorem management_raise (s : State) (k : AlertKind) (p : Payload) :
    (s.raise k p).management = s.management.raised k p := rfl

/-! ### State.begin -/

@[simp] theorem pending_begin (s : State) : s.begin.pending = s.pending := rfl
@[simp] theorem resetLine_begin (s : State) : s.begin.resetLine = s.resetLine := rfl
@[simp] theorem mntLine_begin (s : State) : s.begin.mntLine = s.mntLine := rfl
@[simp] theorem link_begin (s : State) : s.begin.link = s.link := rfl
@[simp] theorem front_begin (s : State) : s.begin.front = s.front := rfl
@[simp] theorem tracker_begin (s : State) : s.begin.tracker = s.tracker := rfl
@[simp] theorem detector_begin (s : State) : s.begin.detector = s.detector := rfl
@[simp] theorem demand_begin (s : State) : s.begin.demand = s.demand := rfl
@[simp] theorem controller_begin (s : State) : s.begin.controller = s.controller := rfl
@[simp] theorem injection_begin (s : State) : s.begin.injection = s.injection := rfl
@[simp] theorem store_begin (s : State) : s.begin.store = s.store := rfl
@[simp] theorem records_begin (s : State) : s.begin.records = s.records := rfl
@[simp] theorem loader_begin (s : State) : s.begin.loader = s.loader := rfl
@[simp] theorem management_begin (s : State) : s.begin.management = s.management := rfl
@[simp] theorem outPort_begin (s : State) : s.begin.outPort = [] := rfl

/-! ### State.send -/

@[simp] theorem pending_send (s : State) (ws : List Word) : (s.send ws).pending = s.pending := rfl
@[simp] theorem resetLine_send (s : State) (ws : List Word) : (s.send ws).resetLine = s.resetLine := rfl
@[simp] theorem mntLine_send (s : State) (ws : List Word) : (s.send ws).mntLine = s.mntLine := rfl
@[simp] theorem link_send (s : State) (ws : List Word) : (s.send ws).link = s.link := rfl
@[simp] theorem front_send (s : State) (ws : List Word) : (s.send ws).front = s.front := rfl
@[simp] theorem tracker_send (s : State) (ws : List Word) : (s.send ws).tracker = s.tracker := rfl
@[simp] theorem detector_send (s : State) (ws : List Word) : (s.send ws).detector = s.detector := rfl
@[simp] theorem demand_send (s : State) (ws : List Word) : (s.send ws).demand = s.demand := rfl
@[simp] theorem controller_send (s : State) (ws : List Word) :
    (s.send ws).controller = s.controller := rfl
@[simp] theorem injection_send (s : State) (ws : List Word) : (s.send ws).injection = s.injection := rfl
@[simp] theorem store_send (s : State) (ws : List Word) : (s.send ws).store = s.store := rfl
@[simp] theorem records_send (s : State) (ws : List Word) : (s.send ws).records = s.records := rfl
@[simp] theorem loader_send (s : State) (ws : List Word) : (s.send ws).loader = s.loader := rfl
@[simp] theorem management_send (s : State) (ws : List Word) :
    (s.send ws).management = s.management := rfl
@[simp] theorem outPort_send (s : State) (ws : List Word) :
    (s.send ws).outPort = s.outPort ++ [ws] := rfl

/-! ### State.withSections -/

@[simp] theorem pending_withSections (s : State) (x : Four Section) :
    (s.withSections x).pending = s.pending := rfl
@[simp] theorem resetLine_withSections (s : State) (x : Four Section) :
    (s.withSections x).resetLine = s.resetLine := rfl
@[simp] theorem mntLine_withSections (s : State) (x : Four Section) :
    (s.withSections x).mntLine = s.mntLine := rfl
@[simp] theorem outPort_withSections (s : State) (x : Four Section) :
    (s.withSections x).outPort = s.outPort := rfl
@[simp] theorem link_withSections (s : State) (x : Four Section) :
    (s.withSections x).link = s.link := rfl
@[simp] theorem front_withSections (s : State) (x : Four Section) :
    (s.withSections x).front = s.front := rfl
@[simp] theorem tracker_withSections (s : State) (x : Four Section) :
    (s.withSections x).tracker = s.tracker := rfl
@[simp] theorem detector_withSections (s : State) (x : Four Section) :
    (s.withSections x).detector = s.detector := rfl
@[simp] theorem demand_withSections (s : State) (x : Four Section) :
    (s.withSections x).demand = s.demand := rfl
@[simp] theorem injection_withSections (s : State) (x : Four Section) :
    (s.withSections x).injection = s.injection := rfl
@[simp] theorem store_withSections (s : State) (x : Four Section) :
    (s.withSections x).store = s.store := rfl
@[simp] theorem records_withSections (s : State) (x : Four Section) :
    (s.withSections x).records = s.records := rfl
@[simp] theorem loader_withSections (s : State) (x : Four Section) :
    (s.withSections x).loader = s.loader := rfl
@[simp] theorem management_withSections (s : State) (x : Four Section) :
    (s.withSections x).management = s.management := rfl
@[simp] theorem sections_withSections (s : State) (x : Four Section) :
    (s.withSections x).controller.sections = x := rfl
@[simp] theorem run_withSections (s : State) (x : Four Section) :
    (s.withSections x).controller.run = s.controller.run := rfl
@[simp] theorem episode_withSections (s : State) (x : Four Section) :
    (s.withSections x).controller.episode = s.controller.episode := rfl

/-! ### State.withSection -/

@[simp] theorem pending_withSection (s : State) (k : Fin 4) (x : Section) :
    (s.withSection k x).pending = s.pending := rfl
@[simp] theorem resetLine_withSection (s : State) (k : Fin 4) (x : Section) :
    (s.withSection k x).resetLine = s.resetLine := rfl
@[simp] theorem mntLine_withSection (s : State) (k : Fin 4) (x : Section) :
    (s.withSection k x).mntLine = s.mntLine := rfl
@[simp] theorem outPort_withSection (s : State) (k : Fin 4) (x : Section) :
    (s.withSection k x).outPort = s.outPort := rfl
@[simp] theorem link_withSection (s : State) (k : Fin 4) (x : Section) :
    (s.withSection k x).link = s.link := rfl
@[simp] theorem front_withSection (s : State) (k : Fin 4) (x : Section) :
    (s.withSection k x).front = s.front := rfl
@[simp] theorem tracker_withSection (s : State) (k : Fin 4) (x : Section) :
    (s.withSection k x).tracker = s.tracker := rfl
@[simp] theorem detector_withSection (s : State) (k : Fin 4) (x : Section) :
    (s.withSection k x).detector = s.detector := rfl
@[simp] theorem demand_withSection (s : State) (k : Fin 4) (x : Section) :
    (s.withSection k x).demand = s.demand := rfl
@[simp] theorem injection_withSection (s : State) (k : Fin 4) (x : Section) :
    (s.withSection k x).injection = s.injection := rfl
@[simp] theorem store_withSection (s : State) (k : Fin 4) (x : Section) :
    (s.withSection k x).store = s.store := rfl
@[simp] theorem records_withSection (s : State) (k : Fin 4) (x : Section) :
    (s.withSection k x).records = s.records := rfl
@[simp] theorem loader_withSection (s : State) (k : Fin 4) (x : Section) :
    (s.withSection k x).loader = s.loader := rfl
@[simp] theorem management_withSection (s : State) (k : Fin 4) (x : Section) :
    (s.withSection k x).management = s.management := rfl
@[simp] theorem sections_withSection (s : State) (k : Fin 4) (x : Section) :
    (s.withSection k x).controller.sections = s.controller.sections.set k x := rfl
@[simp] theorem run_withSection (s : State) (k : Fin 4) (x : Section) :
    (s.withSection k x).controller.run = s.controller.run := rfl
@[simp] theorem episode_withSection (s : State) (k : Fin 4) (x : Section) :
    (s.withSection k x).controller.episode = s.controller.episode := rfl

/-! ### State.withLock -/

@[simp] theorem pending_withLock (s : State) (t : TableId) (l : LockLevel) :
    (s.withLock t l).pending = s.pending := rfl
@[simp] theorem resetLine_withLock (s : State) (t : TableId) (l : LockLevel) :
    (s.withLock t l).resetLine = s.resetLine := rfl
@[simp] theorem mntLine_withLock (s : State) (t : TableId) (l : LockLevel) :
    (s.withLock t l).mntLine = s.mntLine := rfl
@[simp] theorem outPort_withLock (s : State) (t : TableId) (l : LockLevel) :
    (s.withLock t l).outPort = s.outPort := rfl
@[simp] theorem link_withLock (s : State) (t : TableId) (l : LockLevel) :
    (s.withLock t l).link = s.link := rfl
@[simp] theorem front_withLock (s : State) (t : TableId) (l : LockLevel) :
    (s.withLock t l).front = s.front := rfl
@[simp] theorem tracker_withLock (s : State) (t : TableId) (l : LockLevel) :
    (s.withLock t l).tracker = s.tracker := rfl
@[simp] theorem detector_withLock (s : State) (t : TableId) (l : LockLevel) :
    (s.withLock t l).detector = s.detector := rfl
@[simp] theorem demand_withLock (s : State) (t : TableId) (l : LockLevel) :
    (s.withLock t l).demand = s.demand := rfl
@[simp] theorem controller_withLock (s : State) (t : TableId) (l : LockLevel) :
    (s.withLock t l).controller = s.controller := rfl
@[simp] theorem injection_withLock (s : State) (t : TableId) (l : LockLevel) :
    (s.withLock t l).injection = s.injection := rfl
@[simp] theorem store_withLock (s : State) (t : TableId) (l : LockLevel) :
    (s.withLock t l).store = s.store := rfl
@[simp] theorem records_withLock (s : State) (t : TableId) (l : LockLevel) :
    (s.withLock t l).records = s.records := rfl
@[simp] theorem management_withLock (s : State) (t : TableId) (l : LockLevel) :
    (s.withLock t l).management = s.management := rfl
@[simp] theorem locks_withLock (s : State) (t : TableId) (l : LockLevel) :
    (s.withLock t l).loader.locks = s.loader.locks.set t l := rfl
@[simp] theorem tables_withLock (s : State) (t : TableId) (l : LockLevel) :
    (s.withLock t l).loader.tables = s.loader.tables := rfl
@[simp] theorem load_withLock (s : State) (t : TableId) (l : LockLevel) :
    (s.withLock t l).loader.load = s.loader.load := rfl
@[simp] theorem staging_withLock (s : State) (t : TableId) (l : LockLevel) :
    (s.withLock t l).loader.staging = s.loader.staging := rfl
@[simp] theorem sticky_withLock (s : State) (t : TableId) (l : LockLevel) :
    (s.withLock t l).loader.sticky = s.loader.sticky := rfl

/-! ### placeTable -/

@[simp] theorem pending_placeTable (t : TableId) (w : List Word) (s : State) :
    (placeTable t w s).pending = s.pending := rfl
@[simp] theorem resetLine_placeTable (t : TableId) (w : List Word) (s : State) :
    (placeTable t w s).resetLine = s.resetLine := rfl
@[simp] theorem mntLine_placeTable (t : TableId) (w : List Word) (s : State) :
    (placeTable t w s).mntLine = s.mntLine := rfl
@[simp] theorem outPort_placeTable (t : TableId) (w : List Word) (s : State) :
    (placeTable t w s).outPort = s.outPort := rfl
@[simp] theorem link_placeTable (t : TableId) (w : List Word) (s : State) :
    (placeTable t w s).link = s.link := rfl
@[simp] theorem front_placeTable (t : TableId) (w : List Word) (s : State) :
    (placeTable t w s).front = s.front := rfl
@[simp] theorem tracker_placeTable (t : TableId) (w : List Word) (s : State) :
    (placeTable t w s).tracker = s.tracker := rfl
@[simp] theorem detector_placeTable (t : TableId) (w : List Word) (s : State) :
    (placeTable t w s).detector = s.detector := rfl
@[simp] theorem demand_placeTable (t : TableId) (w : List Word) (s : State) :
    (placeTable t w s).demand = s.demand := rfl
@[simp] theorem controller_placeTable (t : TableId) (w : List Word) (s : State) :
    (placeTable t w s).controller = s.controller := rfl
@[simp] theorem injection_placeTable (t : TableId) (w : List Word) (s : State) :
    (placeTable t w s).injection = s.injection := rfl
@[simp] theorem store_placeTable (t : TableId) (w : List Word) (s : State) :
    (placeTable t w s).store = s.store := rfl
@[simp] theorem records_placeTable (t : TableId) (w : List Word) (s : State) :
    (placeTable t w s).records = s.records := rfl
@[simp] theorem management_placeTable (t : TableId) (w : List Word) (s : State) :
    (placeTable t w s).management = s.management := rfl
@[simp] theorem tables_placeTable (t : TableId) (w : List Word) (s : State) :
    (placeTable t w s).loader.tables = s.loader.tables.set t (some w) := rfl
@[simp] theorem locks_placeTable (t : TableId) (w : List Word) (s : State) :
    (placeTable t w s).loader.locks = s.loader.locks := rfl
@[simp] theorem load_placeTable (t : TableId) (w : List Word) (s : State) :
    (placeTable t w s).loader.load = s.loader.load := rfl
@[simp] theorem staging_placeTable (t : TableId) (w : List Word) (s : State) :
    (placeTable t w s).loader.staging = s.loader.staging := rfl
@[simp] theorem sticky_placeTable (t : TableId) (w : List Word) (s : State) :
    (placeTable t w s).loader.sticky = s.loader.sticky := rfl

/-! ### closeLoad -/

@[simp] theorem pending_closeLoad (s : State) : (closeLoad s).pending = s.pending := rfl
@[simp] theorem resetLine_closeLoad (s : State) : (closeLoad s).resetLine = s.resetLine := rfl
@[simp] theorem mntLine_closeLoad (s : State) : (closeLoad s).mntLine = s.mntLine := rfl
@[simp] theorem outPort_closeLoad (s : State) : (closeLoad s).outPort = s.outPort := rfl
@[simp] theorem link_closeLoad (s : State) : (closeLoad s).link = s.link := rfl
@[simp] theorem front_closeLoad (s : State) : (closeLoad s).front = s.front := rfl
@[simp] theorem tracker_closeLoad (s : State) : (closeLoad s).tracker = s.tracker := rfl
@[simp] theorem detector_closeLoad (s : State) : (closeLoad s).detector = s.detector := rfl
@[simp] theorem demand_closeLoad (s : State) : (closeLoad s).demand = s.demand := rfl
@[simp] theorem controller_closeLoad (s : State) : (closeLoad s).controller = s.controller := rfl
@[simp] theorem injection_closeLoad (s : State) : (closeLoad s).injection = s.injection := rfl
@[simp] theorem store_closeLoad (s : State) : (closeLoad s).store = s.store := rfl
@[simp] theorem records_closeLoad (s : State) : (closeLoad s).records = s.records := rfl
@[simp] theorem management_closeLoad (s : State) : (closeLoad s).management = s.management := rfl
@[simp] theorem tables_closeLoad (s : State) : (closeLoad s).loader.tables = s.loader.tables := rfl
@[simp] theorem locks_closeLoad (s : State) : (closeLoad s).loader.locks = s.loader.locks := rfl
@[simp] theorem load_closeLoad (s : State) : (closeLoad s).loader.load = .idle := rfl
@[simp] theorem staging_closeLoad (s : State) : (closeLoad s).loader.staging = [] := rfl
@[simp] theorem sticky_closeLoad (s : State) : (closeLoad s).loader.sticky = s.loader.sticky := rfl

/-! ### State.updateOpenRecord -/

@[simp] theorem pending_updateOpenRecord (g : Record → Record) (s : State) :
    (s.updateOpenRecord g).pending = s.pending := rfl
@[simp] theorem resetLine_updateOpenRecord (g : Record → Record) (s : State) :
    (s.updateOpenRecord g).resetLine = s.resetLine := rfl
@[simp] theorem mntLine_updateOpenRecord (g : Record → Record) (s : State) :
    (s.updateOpenRecord g).mntLine = s.mntLine := rfl
@[simp] theorem outPort_updateOpenRecord (g : Record → Record) (s : State) :
    (s.updateOpenRecord g).outPort = s.outPort := rfl
@[simp] theorem link_updateOpenRecord (g : Record → Record) (s : State) :
    (s.updateOpenRecord g).link = s.link := rfl
@[simp] theorem front_updateOpenRecord (g : Record → Record) (s : State) :
    (s.updateOpenRecord g).front = s.front := rfl
@[simp] theorem tracker_updateOpenRecord (g : Record → Record) (s : State) :
    (s.updateOpenRecord g).tracker = s.tracker := rfl
@[simp] theorem detector_updateOpenRecord (g : Record → Record) (s : State) :
    (s.updateOpenRecord g).detector = s.detector := rfl
@[simp] theorem demand_updateOpenRecord (g : Record → Record) (s : State) :
    (s.updateOpenRecord g).demand = s.demand := rfl
@[simp] theorem controller_updateOpenRecord (g : Record → Record) (s : State) :
    (s.updateOpenRecord g).controller = s.controller := rfl
@[simp] theorem injection_updateOpenRecord (g : Record → Record) (s : State) :
    (s.updateOpenRecord g).injection = s.injection := rfl
@[simp] theorem store_updateOpenRecord (g : Record → Record) (s : State) :
    (s.updateOpenRecord g).store = s.store := rfl
@[simp] theorem loader_updateOpenRecord (g : Record → Record) (s : State) :
    (s.updateOpenRecord g).loader = s.loader := rfl
@[simp] theorem management_updateOpenRecord (g : Record → Record) (s : State) :
    (s.updateOpenRecord g).management = s.management := rfl
@[simp] theorem list_updateOpenRecord (g : Record → Record) (s : State) :
    (s.updateOpenRecord g).records.list = updateOpen g s.records.list := rfl
@[simp] theorem nextSeq_updateOpenRecord (g : Record → Record) (s : State) :
    (s.updateOpenRecord g).records.nextSeq = s.records.nextSeq := rfl

/-! ### State.setLockedTarget -/

@[simp] theorem pending_setLockedTarget (s : State) : s.setLockedTarget.pending = s.pending := rfl
@[simp] theorem resetLine_setLockedTarget (s : State) : s.setLockedTarget.resetLine = s.resetLine := rfl
@[simp] theorem mntLine_setLockedTarget (s : State) : s.setLockedTarget.mntLine = s.mntLine := rfl
@[simp] theorem outPort_setLockedTarget (s : State) : s.setLockedTarget.outPort = s.outPort := rfl
@[simp] theorem link_setLockedTarget (s : State) : s.setLockedTarget.link = s.link := rfl
@[simp] theorem front_setLockedTarget (s : State) : s.setLockedTarget.front = s.front := rfl
@[simp] theorem tracker_setLockedTarget (s : State) : s.setLockedTarget.tracker = s.tracker := rfl
@[simp] theorem detector_setLockedTarget (s : State) : s.setLockedTarget.detector = s.detector := rfl
@[simp] theorem demand_setLockedTarget (s : State) : s.setLockedTarget.demand = s.demand := rfl
@[simp] theorem controller_setLockedTarget (s : State) :
    s.setLockedTarget.controller = s.controller := rfl
@[simp] theorem injection_setLockedTarget (s : State) : s.setLockedTarget.injection = s.injection := rfl
@[simp] theorem store_setLockedTarget (s : State) : s.setLockedTarget.store = s.store := rfl
@[simp] theorem records_setLockedTarget (s : State) : s.setLockedTarget.records = s.records := rfl
@[simp] theorem management_setLockedTarget (s : State) :
    s.setLockedTarget.management = s.management := rfl
@[simp] theorem tables_setLockedTarget (s : State) :
    s.setLockedTarget.loader.tables = s.loader.tables := rfl
@[simp] theorem locks_setLockedTarget (s : State) :
    s.setLockedTarget.loader.locks = s.loader.locks := rfl
@[simp] theorem load_setLockedTarget (s : State) : s.setLockedTarget.loader.load = s.loader.load := rfl
@[simp] theorem staging_setLockedTarget (s : State) :
    s.setLockedTarget.loader.staging = s.loader.staging := rfl
@[simp] theorem sticky_setLockedTarget (s : State) :
    s.setLockedTarget.loader.sticky = { s.loader.sticky with lockedTarget := true } := rfl

/-! ### State.setSequence -/

@[simp] theorem pending_setSequence (s : State) : s.setSequence.pending = s.pending := rfl
@[simp] theorem resetLine_setSequence (s : State) : s.setSequence.resetLine = s.resetLine := rfl
@[simp] theorem mntLine_setSequence (s : State) : s.setSequence.mntLine = s.mntLine := rfl
@[simp] theorem outPort_setSequence (s : State) : s.setSequence.outPort = s.outPort := rfl
@[simp] theorem link_setSequence (s : State) : s.setSequence.link = s.link := rfl
@[simp] theorem front_setSequence (s : State) : s.setSequence.front = s.front := rfl
@[simp] theorem tracker_setSequence (s : State) : s.setSequence.tracker = s.tracker := rfl
@[simp] theorem detector_setSequence (s : State) : s.setSequence.detector = s.detector := rfl
@[simp] theorem demand_setSequence (s : State) : s.setSequence.demand = s.demand := rfl
@[simp] theorem controller_setSequence (s : State) : s.setSequence.controller = s.controller := rfl
@[simp] theorem injection_setSequence (s : State) : s.setSequence.injection = s.injection := rfl
@[simp] theorem store_setSequence (s : State) : s.setSequence.store = s.store := rfl
@[simp] theorem records_setSequence (s : State) : s.setSequence.records = s.records := rfl
@[simp] theorem management_setSequence (s : State) : s.setSequence.management = s.management := rfl
@[simp] theorem tables_setSequence (s : State) : s.setSequence.loader.tables = s.loader.tables := rfl
@[simp] theorem locks_setSequence (s : State) : s.setSequence.loader.locks = s.loader.locks := rfl
@[simp] theorem load_setSequence (s : State) : s.setSequence.loader.load = s.loader.load := rfl
@[simp] theorem staging_setSequence (s : State) : s.setSequence.loader.staging = s.loader.staging := rfl
@[simp] theorem sticky_setSequence (s : State) :
    s.setSequence.loader.sticky = { s.loader.sticky with sequence := true } := rfl

/-! ### State.setContent -/

@[simp] theorem pending_setContent (s : State) : s.setContent.pending = s.pending := rfl
@[simp] theorem resetLine_setContent (s : State) : s.setContent.resetLine = s.resetLine := rfl
@[simp] theorem mntLine_setContent (s : State) : s.setContent.mntLine = s.mntLine := rfl
@[simp] theorem outPort_setContent (s : State) : s.setContent.outPort = s.outPort := rfl
@[simp] theorem link_setContent (s : State) : s.setContent.link = s.link := rfl
@[simp] theorem front_setContent (s : State) : s.setContent.front = s.front := rfl
@[simp] theorem tracker_setContent (s : State) : s.setContent.tracker = s.tracker := rfl
@[simp] theorem detector_setContent (s : State) : s.setContent.detector = s.detector := rfl
@[simp] theorem demand_setContent (s : State) : s.setContent.demand = s.demand := rfl
@[simp] theorem controller_setContent (s : State) : s.setContent.controller = s.controller := rfl
@[simp] theorem injection_setContent (s : State) : s.setContent.injection = s.injection := rfl
@[simp] theorem store_setContent (s : State) : s.setContent.store = s.store := rfl
@[simp] theorem records_setContent (s : State) : s.setContent.records = s.records := rfl
@[simp] theorem management_setContent (s : State) : s.setContent.management = s.management := rfl
@[simp] theorem tables_setContent (s : State) : s.setContent.loader.tables = s.loader.tables := rfl
@[simp] theorem locks_setContent (s : State) : s.setContent.loader.locks = s.loader.locks := rfl
@[simp] theorem load_setContent (s : State) : s.setContent.loader.load = s.loader.load := rfl
@[simp] theorem staging_setContent (s : State) : s.setContent.loader.staging = s.loader.staging := rfl
@[simp] theorem sticky_setContent (s : State) :
    s.setContent.loader.sticky = { s.loader.sticky with content := true } := rfl

/-! ### State.setCross -/

@[simp] theorem pending_setCross (s : State) : s.setCross.pending = s.pending := rfl
@[simp] theorem resetLine_setCross (s : State) : s.setCross.resetLine = s.resetLine := rfl
@[simp] theorem mntLine_setCross (s : State) : s.setCross.mntLine = s.mntLine := rfl
@[simp] theorem outPort_setCross (s : State) : s.setCross.outPort = s.outPort := rfl
@[simp] theorem link_setCross (s : State) : s.setCross.link = s.link := rfl
@[simp] theorem front_setCross (s : State) : s.setCross.front = s.front := rfl
@[simp] theorem tracker_setCross (s : State) : s.setCross.tracker = s.tracker := rfl
@[simp] theorem detector_setCross (s : State) : s.setCross.detector = s.detector := rfl
@[simp] theorem demand_setCross (s : State) : s.setCross.demand = s.demand := rfl
@[simp] theorem controller_setCross (s : State) : s.setCross.controller = s.controller := rfl
@[simp] theorem injection_setCross (s : State) : s.setCross.injection = s.injection := rfl
@[simp] theorem store_setCross (s : State) : s.setCross.store = s.store := rfl
@[simp] theorem records_setCross (s : State) : s.setCross.records = s.records := rfl
@[simp] theorem management_setCross (s : State) : s.setCross.management = s.management := rfl
@[simp] theorem tables_setCross (s : State) : s.setCross.loader.tables = s.loader.tables := rfl
@[simp] theorem locks_setCross (s : State) : s.setCross.loader.locks = s.loader.locks := rfl
@[simp] theorem load_setCross (s : State) : s.setCross.loader.load = s.loader.load := rfl
@[simp] theorem staging_setCross (s : State) : s.setCross.loader.staging = s.loader.staging := rfl
@[simp] theorem sticky_setCross (s : State) :
    s.setCross.loader.sticky = { s.loader.sticky with cross := true } := rfl

end Sys2Proof.Machine
end

