-- ==== Sys2Proof/Laws/Works.lean ====
section
/-! SUPPORT. What each block's work leaves as it stands. One lemma for each operation: every field of the
engine, and every item of a field it changes in part, that the operation does not write. -/

namespace Sys2Proof.Machine

/-! ### Items of one block -/

@[simp] theorem Management.raised_leaves (m : Management) (k : AlertKind) (p : Payload) :
    (m.raised k p).slot = m.slot ∧ (m.raised k p).queue = m.queue ∧
    (m.raised k p).snapshot = m.snapshot ∧ (m.raised k p).mask = m.mask := by
  simp [Management.raised]

@[simp] theorem allocate_leaves (l : StoreLevels) (v : Int) (a : Allocator) :
    (allocate l v a).levels = a.levels := rfl

@[simp] theorem captureHeld_leaves (t : Tracker) :
    (captureHeld t).live = t.live ∧ (captureHeld t).incLive = t.incLive ∧ (captureHeld t).lock = t.lock
      ∧
    (captureHeld t).good = t.good ∧ (captureHeld t).bad = t.bad ∧ (captureHeld t).quiet = t.quiet ∧
    (captureHeld t).marks = t.marks := by
  unfold captureHeld
  split <;> simp

@[simp] theorem startSlew_leaves (t : Tracker) :
    (startSlew t).live = t.live ∧ (startSlew t).incLive = t.incLive ∧ (startSlew t).lock = t.lock ∧
    (startSlew t).good = t.good ∧ (startSlew t).bad = t.bad ∧ (startSlew t).quiet = t.quiet ∧
    (startSlew t).held = t.held ∧ (startSlew t).incHeld = t.incHeld ∧ (startSlew t).marks = t.marks :=
      by
  unfold startSlew
  split <;> simp

@[simp] theorem Tracker.retabled_leaves (span : Nat) (t : Tracker) :
    (t.retabled span).live = t.live ∧ (t.retabled span).held = t.held ∧ (t.retabled span).ref = t.ref ∧
    (t.retabled span).settle = t.settle ∧ (t.retabled span).returnTimer = t.returnTimer ∧
    (t.retabled span).marks = t.marks := by
  simp [Tracker.retabled]

@[simp] theorem Tracker.silenced_leaves (t : Tracker) :
    t.silenced.live = t.live ∧ t.silenced.incLive = t.incLive ∧ t.silenced.held = t.held ∧
    t.silenced.incHeld = t.incHeld ∧ t.silenced.marks = t.marks := by
  unfold Tracker.silenced
  dsimp only
  split <;> simp

@[simp] theorem Detector.retabled_leaves (d : Detector) :
    d.retabled.trigger = d.trigger ∧ d.retabled.involved = d.involved ∧ d.retabled.elapsed = d.elapsed ∧
    d.retabled.sagDuration = d.sagDuration ∧ d.retabled.phaseJump = d.phaseJump ∧
    d.retabled.suspended = d.suspended ∧ d.retabled.sagStart = d.sagStart ∧
    d.retabled.sagEnd = d.sagEnd := by
  simp [Detector.retabled]

@[simp] theorem Detector.silenced_leaves (d : Detector) :
    d.silenced.trigger = d.trigger ∧ d.silenced.involved = d.involved ∧ d.silenced.elapsed = d.elapsed ∧
    d.silenced.sagDuration = d.sagDuration ∧ d.silenced.phaseJump = d.phaseJump ∧
    d.silenced.suspended = d.suspended := by
  simp [Detector.silenced]

@[simp] theorem Controller.lowered_leaves (c : Controller) :
    c.lowered.run = c.run ∧ c.lowered.episode = false := by
  simp [Controller.lowered]

/-! ### Operations on the engine -/

/-- Raising alerts touches no field but the management unit's flags. -/
@[simp] theorem raiseAll_leaves (as : List (AlertKind × Payload)) (s : State) :
    (s.raiseAll as).pending = s.pending ∧ (s.raiseAll as).resetLine = s.resetLine ∧
    (s.raiseAll as).mntLine = s.mntLine ∧ (s.raiseAll as).outPort = s.outPort ∧
    (s.raiseAll as).link = s.link ∧ (s.raiseAll as).front = s.front ∧
    (s.raiseAll as).tracker = s.tracker ∧ (s.raiseAll as).detector = s.detector ∧
    (s.raiseAll as).demand = s.demand ∧ (s.raiseAll as).controller = s.controller ∧
    (s.raiseAll as).injection = s.injection ∧ (s.raiseAll as).store = s.store ∧
    (s.raiseAll as).records = s.records ∧ (s.raiseAll as).loader = s.loader ∧
    (s.raiseAll as).management.slot = s.management.slot ∧
    (s.raiseAll as).management.queue = s.management.queue ∧
    (s.raiseAll as).management.snapshot = s.management.snapshot ∧
    (s.raiseAll as).management.mask = s.management.mask := by
  unfold State.raiseAll
  induction as generalizing s with
  | nil => simp
  | cons a as ih => simp [ih]

@[simp] theorem raiseEpisode_leaves (s : State) :
    (raiseEpisode s).pending = s.pending ∧ (raiseEpisode s).resetLine = s.resetLine ∧
    (raiseEpisode s).mntLine = s.mntLine ∧ (raiseEpisode s).outPort = s.outPort ∧
    (raiseEpisode s).link = s.link ∧ (raiseEpisode s).front = s.front ∧
    (raiseEpisode s).tracker = s.tracker ∧ (raiseEpisode s).detector = s.detector ∧
    (raiseEpisode s).demand = s.demand ∧ (raiseEpisode s).injection = s.injection ∧
    (raiseEpisode s).store = s.store ∧ (raiseEpisode s).records = s.records ∧
    (raiseEpisode s).loader = s.loader ∧ (raiseEpisode s).management = s.management ∧
    (raiseEpisode s).controller.run = s.controller.run ∧
    (raiseEpisode s).controller.sections = s.controller.sections := by
  unfold raiseEpisode
  simp

@[simp] theorem unlockAlert_leaves (a b : LockState) (s : State) :
    (unlockAlert a b s).pending = s.pending ∧ (unlockAlert a b s).resetLine = s.resetLine ∧
    (unlockAlert a b s).mntLine = s.mntLine ∧ (unlockAlert a b s).outPort = s.outPort ∧
    (unlockAlert a b s).link = s.link ∧ (unlockAlert a b s).front = s.front ∧
    (unlockAlert a b s).tracker = s.tracker ∧ (unlockAlert a b s).detector = s.detector ∧
    (unlockAlert a b s).demand = s.demand ∧ (unlockAlert a b s).controller = s.controller ∧
    (unlockAlert a b s).injection = s.injection ∧ (unlockAlert a b s).store = s.store ∧
    (unlockAlert a b s).records = s.records ∧ (unlockAlert a b s).loader = s.loader ∧
    (unlockAlert a b s).management.slot = s.management.slot ∧
    (unlockAlert a b s).management.queue = s.management.queue ∧
    (unlockAlert a b s).management.snapshot = s.management.snapshot ∧
    (unlockAlert a b s).management.mask = s.management.mask := by
  unfold unlockAlert
  (repeat' split) <;> simp

@[simp] theorem linkWork_leaves (c : StepClass) (f : SampleFrame) (s : State) :
    (linkWork c f s).pending = s.pending ∧ (linkWork c f s).resetLine = s.resetLine ∧
    (linkWork c f s).mntLine = s.mntLine ∧ (linkWork c f s).outPort = s.outPort ∧
    (linkWork c f s).front = s.front ∧ (linkWork c f s).tracker = s.tracker ∧
    (linkWork c f s).detector = s.detector ∧ (linkWork c f s).demand = s.demand ∧
    (linkWork c f s).controller = s.controller ∧ (linkWork c f s).injection = s.injection ∧
    (linkWork c f s).store = s.store ∧ (linkWork c f s).records = s.records ∧
    (linkWork c f s).loader = s.loader ∧ (linkWork c f s).management.slot = s.management.slot ∧
    (linkWork c f s).management.queue = s.management.queue ∧
    (linkWork c f s).management.snapshot = s.management.snapshot ∧
    (linkWork c f s).management.mask = s.management.mask := by
  unfold linkWork
  (repeat' split) <;> simp

@[simp] theorem frontWork_leaves (c : StepClass) (f : SampleFrame) (s : State) :
    (frontWork c f s).pending = s.pending ∧ (frontWork c f s).resetLine = s.resetLine ∧
    (frontWork c f s).mntLine = s.mntLine ∧ (frontWork c f s).outPort = s.outPort ∧
    (frontWork c f s).link = s.link ∧ (frontWork c f s).tracker = s.tracker ∧
    (frontWork c f s).detector = s.detector ∧ (frontWork c f s).demand = s.demand ∧
    (frontWork c f s).controller = s.controller ∧ (frontWork c f s).injection = s.injection ∧
    (frontWork c f s).store = s.store ∧ (frontWork c f s).records = s.records ∧
    (frontWork c f s).loader = s.loader ∧ (frontWork c f s).management = s.management := by
  unfold frontWork
  simp

@[simp] theorem trackerFirst_leaves (prev : Previous) (gap : Nat) (s : State) :
    (trackerFirst prev gap s).pending = s.pending ∧ (trackerFirst prev gap s).resetLine = s.resetLine ∧
    (trackerFirst prev gap s).mntLine = s.mntLine ∧ (trackerFirst prev gap s).outPort = s.outPort ∧
    (trackerFirst prev gap s).link = s.link ∧ (trackerFirst prev gap s).front = s.front ∧
    (trackerFirst prev gap s).detector = s.detector ∧ (trackerFirst prev gap s).demand = s.demand ∧
    (trackerFirst prev gap s).controller = s.controller ∧
    (trackerFirst prev gap s).injection = s.injection ∧ (trackerFirst prev gap s).store = s.store ∧
    (trackerFirst prev gap s).records = s.records ∧ (trackerFirst prev gap s).loader = s.loader ∧
    (trackerFirst prev gap s).management.slot = s.management.slot ∧
    (trackerFirst prev gap s).management.queue = s.management.queue ∧
    (trackerFirst prev gap s).management.snapshot = s.management.snapshot ∧
    (trackerFirst prev gap s).management.mask = s.management.mask := by
  unfold trackerFirst
  (repeat' split) <;> simp

@[simp] theorem storeWork_leaves (s : State) :
    (storeWork s).pending = s.pending ∧ (storeWork s).resetLine = s.resetLine ∧
    (storeWork s).mntLine = s.mntLine ∧ (storeWork s).outPort = s.outPort ∧
    (storeWork s).link = s.link ∧ (storeWork s).front = s.front ∧ (storeWork s).tracker = s.tracker ∧
    (storeWork s).detector = s.detector ∧ (storeWork s).demand = s.demand ∧
    (storeWork s).controller = s.controller ∧ (storeWork s).injection = s.injection ∧
    (storeWork s).records = s.records ∧ (storeWork s).loader = s.loader ∧
    (storeWork s).management.slot = s.management.slot ∧
    (storeWork s).management.queue = s.management.queue ∧
    (storeWork s).management.snapshot = s.management.snapshot ∧
    (storeWork s).management.mask = s.management.mask ∧
    (storeWork s).store.levels = s.store.levels := by
  unfold storeWork
  (repeat' split) <;> simp

@[simp] theorem detectorWork_leaves (prev : Previous) (c : StepClass) (s : State) :
    (detectorWork prev c s).pending = s.pending ∧ (detectorWork prev c s).resetLine = s.resetLine ∧
    (detectorWork prev c s).mntLine = s.mntLine ∧ (detectorWork prev c s).outPort = s.outPort ∧
    (detectorWork prev c s).link = s.link ∧ (detectorWork prev c s).front = s.front ∧
    (detectorWork prev c s).tracker = s.tracker ∧ (detectorWork prev c s).demand = s.demand ∧
    (detectorWork prev c s).controller = s.controller ∧
    (detectorWork prev c s).injection = s.injection ∧ (detectorWork prev c s).store = s.store ∧
    (detectorWork prev c s).records = s.records ∧ (detectorWork prev c s).loader = s.loader ∧
    (detectorWork prev c s).management = s.management := by
  unfold detectorWork
  (repeat' split) <;> simp

@[simp] theorem trackerSecond_leaves (s : State) :
    (trackerSecond s).pending = s.pending ∧ (trackerSecond s).resetLine = s.resetLine ∧
    (trackerSecond s).mntLine = s.mntLine ∧ (trackerSecond s).outPort = s.outPort ∧
    (trackerSecond s).link = s.link ∧ (trackerSecond s).front = s.front ∧
    (trackerSecond s).detector = s.detector ∧ (trackerSecond s).demand = s.demand ∧
    (trackerSecond s).controller = s.controller ∧ (trackerSecond s).injection = s.injection ∧
    (trackerSecond s).store = s.store ∧ (trackerSecond s).records = s.records ∧
    (trackerSecond s).loader = s.loader ∧ (trackerSecond s).management = s.management ∧
    (trackerSecond s).tracker.live = s.tracker.live ∧
    (trackerSecond s).tracker.incLive = s.tracker.incLive ∧
    (trackerSecond s).tracker.lock = s.tracker.lock ∧ (trackerSecond s).tracker.good = s.tracker.good ∧
    (trackerSecond s).tracker.bad = s.tracker.bad ∧ (trackerSecond s).tracker.quiet = s.tracker.quiet ∧
    (trackerSecond s).tracker.marks = s.tracker.marks := by
  unfold trackerSecond
  (repeat' split) <;> simp

@[simp] theorem demandWork_leaves (s : State) :
    (demandWork s).pending = s.pending ∧ (demandWork s).resetLine = s.resetLine ∧
    (demandWork s).mntLine = s.mntLine ∧ (demandWork s).outPort = s.outPort ∧
    (demandWork s).link = s.link ∧ (demandWork s).front = s.front ∧ (demandWork s).tracker = s.tracker ∧
    (demandWork s).detector = s.detector ∧ (demandWork s).controller = s.controller ∧
    (demandWork s).injection = s.injection ∧ (demandWork s).store = s.store ∧
    (demandWork s).records = s.records ∧ (demandWork s).loader = s.loader ∧
    (demandWork s).management = s.management := by
  unfold demandWork
  (repeat' split) <;> simp

@[simp] theorem measureFrame_leaves (c : StepClass) (f : SampleFrame) (s : State) :
    (measureFrame c f s).pending = s.pending ∧ (measureFrame c f s).resetLine = s.resetLine ∧
    (measureFrame c f s).mntLine = s.mntLine ∧ (measureFrame c f s).outPort = s.outPort ∧
    (measureFrame c f s).tracker = s.tracker ∧ (measureFrame c f s).detector = s.detector ∧
    (measureFrame c f s).demand = s.demand ∧ (measureFrame c f s).controller = s.controller ∧
    (measureFrame c f s).injection = s.injection ∧ (measureFrame c f s).store = s.store ∧
    (measureFrame c f s).records = s.records ∧ (measureFrame c f s).loader = s.loader ∧
    (measureFrame c f s).management.slot = s.management.slot ∧
    (measureFrame c f s).management.queue = s.management.queue ∧
    (measureFrame c f s).management.snapshot = s.management.snapshot ∧
    (measureFrame c f s).management.mask = s.management.mask := by
  unfold measureFrame
  simp

@[simp] theorem judgeFrame_leaves (prev : Previous) (c : StepClass) (s : State) :
    (judgeFrame prev c s).pending = s.pending ∧ (judgeFrame prev c s).resetLine = s.resetLine ∧
    (judgeFrame prev c s).mntLine = s.mntLine ∧ (judgeFrame prev c s).outPort = s.outPort ∧
    (judgeFrame prev c s).link = s.link ∧ (judgeFrame prev c s).front = s.front ∧
    (judgeFrame prev c s).controller = s.controller ∧ (judgeFrame prev c s).injection = s.injection ∧
    (judgeFrame prev c s).records = s.records ∧ (judgeFrame prev c s).loader = s.loader ∧
    (judgeFrame prev c s).management.slot = s.management.slot ∧
    (judgeFrame prev c s).management.queue = s.management.queue ∧
    (judgeFrame prev c s).management.snapshot = s.management.snapshot ∧
    (judgeFrame prev c s).management.mask = s.management.mask ∧
    (judgeFrame prev c s).store.levels = s.store.levels := by
  unfold judgeFrame
  simp

@[simp] theorem placeSections_leaves (m : Four Moved) (s : State) :
    (placeSections m s).pending = s.pending ∧ (placeSections m s).resetLine = s.resetLine ∧
    (placeSections m s).mntLine = s.mntLine ∧ (placeSections m s).outPort = s.outPort ∧
    (placeSections m s).link = s.link ∧ (placeSections m s).front = s.front ∧
    (placeSections m s).tracker = s.tracker ∧ (placeSections m s).detector = s.detector ∧
    (placeSections m s).demand = s.demand ∧ (placeSections m s).injection = s.injection ∧
    (placeSections m s).store = s.store ∧ (placeSections m s).records = s.records ∧
    (placeSections m s).loader = s.loader ∧ (placeSections m s).management.slot = s.management.slot ∧
    (placeSections m s).management.queue = s.management.queue ∧
    (placeSections m s).management.snapshot = s.management.snapshot ∧
    (placeSections m s).management.mask = s.management.mask ∧
    (placeSections m s).controller.run = s.controller.run ∧
    (placeSections m s).controller.episode = s.controller.episode := by
  unfold placeSections
  simp

@[simp] theorem controllerWork_leaves (s : State) :
    ((controllerWork s).state).pending = s.pending ∧
    ((controllerWork s).state).resetLine = s.resetLine ∧
    ((controllerWork s).state).mntLine = s.mntLine ∧ ((controllerWork s).state).outPort = s.outPort ∧
    ((controllerWork s).state).link = s.link ∧ ((controllerWork s).state).front = s.front ∧
    ((controllerWork s).state).tracker = s.tracker ∧ ((controllerWork s).state).detector = s.detector ∧
    ((controllerWork s).state).demand = s.demand ∧ ((controllerWork s).state).injection = s.injection ∧
    ((controllerWork s).state).store = s.store ∧ ((controllerWork s).state).records = s.records ∧
    ((controllerWork s).state).loader = s.loader ∧
    ((controllerWork s).state).management.slot = s.management.slot ∧
    ((controllerWork s).state).management.queue = s.management.queue ∧
    ((controllerWork s).state).management.snapshot = s.management.snapshot ∧
    ((controllerWork s).state).management.mask = s.management.mask ∧
    ((controllerWork s).state).controller.run = s.controller.run := by
  unfold controllerWork
  dsimp only
  (repeat' split) <;> simp

@[simp] theorem injectionWork_leaves (s : State) :
    (injectionWork s).pending = s.pending ∧ (injectionWork s).resetLine = s.resetLine ∧
    (injectionWork s).mntLine = s.mntLine ∧ (injectionWork s).outPort = s.outPort ∧
    (injectionWork s).link = s.link ∧ (injectionWork s).front = s.front ∧
    (injectionWork s).tracker = s.tracker ∧ (injectionWork s).detector = s.detector ∧
    (injectionWork s).demand = s.demand ∧ (injectionWork s).controller = s.controller ∧
    (injectionWork s).store = s.store ∧ (injectionWork s).records = s.records ∧
    (injectionWork s).loader = s.loader ∧ (injectionWork s).management = s.management := by
  unfold injectionWork
  (repeat' split) <;> simp

@[simp] theorem closeRecord_leaves (e : EndCause) (s : State) :
    (closeRecord e s).pending = s.pending ∧ (closeRecord e s).resetLine = s.resetLine ∧
    (closeRecord e s).mntLine = s.mntLine ∧ (closeRecord e s).outPort = s.outPort ∧
    (closeRecord e s).link = s.link ∧ (closeRecord e s).front = s.front ∧
    (closeRecord e s).tracker = s.tracker ∧ (closeRecord e s).detector = s.detector ∧
    (closeRecord e s).demand = s.demand ∧ (closeRecord e s).controller = s.controller ∧
    (closeRecord e s).injection = s.injection ∧ (closeRecord e s).store = s.store ∧
    (closeRecord e s).loader = s.loader ∧ (closeRecord e s).management = s.management ∧
    (closeRecord e s).records.nextSeq = s.records.nextSeq := by
  unfold closeRecord
  simp

@[simp] theorem handOutcomes_leaves (k : Fin 4) (os : List EntryOutcome) (s : State) :
    (handOutcomes k os s).pending = s.pending ∧ (handOutcomes k os s).resetLine = s.resetLine ∧
    (handOutcomes k os s).mntLine = s.mntLine ∧ (handOutcomes k os s).outPort = s.outPort ∧
    (handOutcomes k os s).link = s.link ∧ (handOutcomes k os s).front = s.front ∧
    (handOutcomes k os s).tracker = s.tracker ∧ (handOutcomes k os s).detector = s.detector ∧
    (handOutcomes k os s).demand = s.demand ∧ (handOutcomes k os s).controller = s.controller ∧
    (handOutcomes k os s).injection = s.injection ∧ (handOutcomes k os s).store = s.store ∧
    (handOutcomes k os s).loader = s.loader ∧ (handOutcomes k os s).management = s.management ∧
    (handOutcomes k os s).records.nextSeq = s.records.nextSeq := by
  unfold handOutcomes
  simp

@[simp] theorem handAll_leaves (os : Four (List EntryOutcome)) (s : State) :
    (handAll os s).pending = s.pending ∧ (handAll os s).resetLine = s.resetLine ∧
    (handAll os s).mntLine = s.mntLine ∧ (handAll os s).outPort = s.outPort ∧
    (handAll os s).link = s.link ∧ (handAll os s).front = s.front ∧ (handAll os s).tracker = s.tracker ∧
    (handAll os s).detector = s.detector ∧ (handAll os s).demand = s.demand ∧
    (handAll os s).controller = s.controller ∧ (handAll os s).injection = s.injection ∧
    (handAll os s).store = s.store ∧ (handAll os s).loader = s.loader ∧
    (handAll os s).management = s.management ∧ (handAll os s).records.nextSeq = s.records.nextSeq := by
  unfold handAll
  simp

@[simp] theorem openNew_leaves (s : State) :
    (openNew s).pending = s.pending ∧ (openNew s).resetLine = s.resetLine ∧
    (openNew s).mntLine = s.mntLine ∧ (openNew s).outPort = s.outPort ∧ (openNew s).link = s.link ∧
    (openNew s).front = s.front ∧ (openNew s).tracker = s.tracker ∧ (openNew s).detector = s.detector ∧
    (openNew s).demand = s.demand ∧ (openNew s).controller = s.controller ∧
    (openNew s).injection = s.injection ∧ (openNew s).store = s.store ∧ (openNew s).loader = s.loader ∧
    (openNew s).management.slot = s.management.slot ∧
    (openNew s).management.queue = s.management.queue ∧
    (openNew s).management.snapshot = s.management.snapshot ∧
    (openNew s).management.mask = s.management.mask := by
  unfold openNew
  dsimp only
  simp

@[simp] theorem recordWork_leaves (os : Four (List EntryOutcome)) (e : Bool) (s : State) :
    (recordWork os e s).pending = s.pending ∧ (recordWork os e s).resetLine = s.resetLine ∧
    (recordWork os e s).mntLine = s.mntLine ∧ (recordWork os e s).outPort = s.outPort ∧
    (recordWork os e s).link = s.link ∧ (recordWork os e s).front = s.front ∧
    (recordWork os e s).tracker = s.tracker ∧ (recordWork os e s).detector = s.detector ∧
    (recordWork os e s).demand = s.demand ∧ (recordWork os e s).controller = s.controller ∧
    (recordWork os e s).injection = s.injection ∧ (recordWork os e s).store = s.store ∧
    (recordWork os e s).loader = s.loader ∧ (recordWork os e s).management.slot = s.management.slot ∧
    (recordWork os e s).management.queue = s.management.queue ∧
    (recordWork os e s).management.snapshot = s.management.snapshot ∧
    (recordWork os e s).management.mask = s.management.mask := by
  unfold recordWork
  dsimp only
  (repeat' split) <;> simp

@[simp] theorem joinSections_leaves (b : Bool) (s : State) :
    (joinSections b s).pending = s.pending ∧ (joinSections b s).resetLine = s.resetLine ∧
    (joinSections b s).mntLine = s.mntLine ∧ (joinSections b s).outPort = s.outPort ∧
    (joinSections b s).link = s.link ∧ (joinSections b s).front = s.front ∧
    (joinSections b s).tracker = s.tracker ∧ (joinSections b s).detector = s.detector ∧
    (joinSections b s).demand = s.demand ∧ (joinSections b s).injection = s.injection ∧
    (joinSections b s).store = s.store ∧ (joinSections b s).records = s.records ∧
    (joinSections b s).loader = s.loader ∧ (joinSections b s).management = s.management ∧
    (joinSections b s).controller.run = s.controller.run ∧
    (joinSections b s).controller.episode = s.controller.episode := by
  unfold joinSections
  (repeat' split) <;> simp

@[simp] theorem retableSections_leaves (s : State) :
    (retableSections s).pending = s.pending ∧ (retableSections s).resetLine = s.resetLine ∧
    (retableSections s).mntLine = s.mntLine ∧ (retableSections s).outPort = s.outPort ∧
    (retableSections s).link = s.link ∧ (retableSections s).front = s.front ∧
    (retableSections s).tracker = s.tracker ∧ (retableSections s).detector = s.detector ∧
    (retableSections s).demand = s.demand ∧ (retableSections s).injection = s.injection ∧
    (retableSections s).store = s.store ∧ (retableSections s).records = s.records ∧
    (retableSections s).loader = s.loader ∧ (retableSections s).management = s.management ∧
    (retableSections s).controller.run = s.controller.run ∧
    (retableSections s).controller.episode = s.controller.episode := by
  unfold retableSections
  simp

@[simp] theorem reactTo_leaves (t : TableId) (b : Bool) (image : List Word) (s : State) :
    (reactTo t b image s).pending = s.pending ∧ (reactTo t b image s).resetLine = s.resetLine ∧
    (reactTo t b image s).mntLine = s.mntLine ∧ (reactTo t b image s).outPort = s.outPort ∧
    (reactTo t b image s).link = s.link ∧ (reactTo t b image s).front = s.front ∧
    (reactTo t b image s).demand = s.demand ∧ (reactTo t b image s).injection = s.injection ∧
    (reactTo t b image s).records = s.records ∧ (reactTo t b image s).loader = s.loader ∧
    (reactTo t b image s).management = s.management ∧
    (reactTo t b image s).controller.run = s.controller.run ∧
    (reactTo t b image s).controller.episode = s.controller.episode ∧
    (reactTo t b image s).store.level = s.store.level ∧
    (reactTo t b image s).store.band = s.store.band ∧
    (reactTo t b image s).store.ready = s.store.ready ∧
    (reactTo t b image s).store.lowArmed = s.store.lowArmed ∧
    (reactTo t b image s).tracker.live = s.tracker.live ∧
    (reactTo t b image s).tracker.held = s.tracker.held ∧
    (reactTo t b image s).tracker.ref = s.tracker.ref ∧
    (reactTo t b image s).tracker.settle = s.tracker.settle ∧
    (reactTo t b image s).tracker.returnTimer = s.tracker.returnTimer ∧
    (reactTo t b image s).tracker.marks = s.tracker.marks ∧
    (reactTo t b image s).detector.trigger = s.detector.trigger ∧
    (reactTo t b image s).detector.involved = s.detector.involved ∧
    (reactTo t b image s).detector.elapsed = s.detector.elapsed ∧
    (reactTo t b image s).detector.sagDuration = s.detector.sagDuration ∧
    (reactTo t b image s).detector.phaseJump = s.detector.phaseJump ∧
    (reactTo t b image s).detector.suspended = s.detector.suspended ∧
    (reactTo t b image s).detector.sagStart = s.detector.sagStart ∧
    (reactTo t b image s).detector.sagEnd = s.detector.sagEnd := by
  unfold reactTo
  (repeat' split) <;> simp

@[simp] theorem applyTable_leaves (t : TableId) (image : List Word) (s : State) :
    (applyTable t image s).pending = s.pending ∧ (applyTable t image s).resetLine = s.resetLine ∧
    (applyTable t image s).mntLine = s.mntLine ∧ (applyTable t image s).outPort = s.outPort ∧
    (applyTable t image s).link = s.link ∧ (applyTable t image s).front = s.front ∧
    (applyTable t image s).demand = s.demand ∧ (applyTable t image s).injection = s.injection ∧
    (applyTable t image s).records = s.records ∧ (applyTable t image s).management = s.management ∧
    (applyTable t image s).controller.run = s.controller.run ∧
    (applyTable t image s).controller.episode = s.controller.episode ∧
    (applyTable t image s).store.level = s.store.level ∧
    (applyTable t image s).store.band = s.store.band ∧
    (applyTable t image s).store.ready = s.store.ready ∧
    (applyTable t image s).store.lowArmed = s.store.lowArmed ∧
    (applyTable t image s).tracker.live = s.tracker.live ∧
    (applyTable t image s).tracker.held = s.tracker.held ∧
    (applyTable t image s).tracker.ref = s.tracker.ref ∧
    (applyTable t image s).tracker.settle = s.tracker.settle ∧
    (applyTable t image s).tracker.returnTimer = s.tracker.returnTimer ∧
    (applyTable t image s).tracker.marks = s.tracker.marks ∧
    (applyTable t image s).detector.trigger = s.detector.trigger ∧
    (applyTable t image s).detector.involved = s.detector.involved ∧
    (applyTable t image s).detector.elapsed = s.detector.elapsed ∧
    (applyTable t image s).detector.sagDuration = s.detector.sagDuration ∧
    (applyTable t image s).detector.phaseJump = s.detector.phaseJump ∧
    (applyTable t image s).detector.suspended = s.detector.suspended ∧
    (applyTable t image s).detector.sagStart = s.detector.sagStart ∧
    (applyTable t image s).detector.sagEnd = s.detector.sagEnd ∧
    (applyTable t image s).loader.locks = s.loader.locks ∧
    (applyTable t image s).loader.sticky = s.loader.sticky ∧
    (applyTable t image s).loader.load = s.loader.load ∧
    (applyTable t image s).loader.staging = s.loader.staging := by
  unfold applyTable
  simp

@[simp] theorem deferredApply_leaves (s : State) :
    (deferredApply s).pending = s.pending ∧ (deferredApply s).resetLine = s.resetLine ∧
    (deferredApply s).mntLine = s.mntLine ∧ (deferredApply s).outPort = s.outPort ∧
    (deferredApply s).link = s.link ∧ (deferredApply s).front = s.front ∧
    (deferredApply s).demand = s.demand ∧ (deferredApply s).injection = s.injection ∧
    (deferredApply s).records = s.records ∧ (deferredApply s).management.slot = s.management.slot ∧
    (deferredApply s).management.queue = s.management.queue ∧
    (deferredApply s).management.snapshot = s.management.snapshot ∧
    (deferredApply s).management.mask = s.management.mask ∧
    (deferredApply s).controller.run = s.controller.run ∧
    (deferredApply s).controller.episode = s.controller.episode ∧
    (deferredApply s).store.level = s.store.level ∧ (deferredApply s).store.band = s.store.band ∧
    (deferredApply s).store.ready = s.store.ready ∧
    (deferredApply s).store.lowArmed = s.store.lowArmed ∧
    (deferredApply s).tracker.live = s.tracker.live ∧ (deferredApply s).tracker.held = s.tracker.held ∧
    (deferredApply s).tracker.ref = s.tracker.ref ∧
    (deferredApply s).tracker.settle = s.tracker.settle ∧
    (deferredApply s).tracker.returnTimer = s.tracker.returnTimer ∧
    (deferredApply s).tracker.marks = s.tracker.marks ∧
    (deferredApply s).detector.trigger = s.detector.trigger ∧
    (deferredApply s).detector.involved = s.detector.involved ∧
    (deferredApply s).detector.elapsed = s.detector.elapsed ∧
    (deferredApply s).detector.sagDuration = s.detector.sagDuration ∧
    (deferredApply s).detector.phaseJump = s.detector.phaseJump ∧
    (deferredApply s).detector.suspended = s.detector.suspended ∧
    (deferredApply s).detector.sagStart = s.detector.sagStart ∧
    (deferredApply s).detector.sagEnd = s.detector.sagEnd ∧
    (deferredApply s).loader.locks = s.loader.locks ∧
    (deferredApply s).loader.sticky = s.loader.sticky := by
  unfold deferredApply
  (repeat' split) <;> simp

@[simp] theorem sendAlert_leaves (k : AlertKind) (p : Payload) (s : State) :
    (sendAlert k p s).pending = s.pending ∧ (sendAlert k p s).resetLine = s.resetLine ∧
    (sendAlert k p s).mntLine = s.mntLine ∧ (sendAlert k p s).link = s.link ∧
    (sendAlert k p s).front = s.front ∧ (sendAlert k p s).tracker = s.tracker ∧
    (sendAlert k p s).detector = s.detector ∧ (sendAlert k p s).demand = s.demand ∧
    (sendAlert k p s).controller = s.controller ∧ (sendAlert k p s).injection = s.injection ∧
    (sendAlert k p s).store = s.store ∧ (sendAlert k p s).records = s.records ∧
    (sendAlert k p s).loader = s.loader ∧ (sendAlert k p s).management.slot = s.management.slot ∧
    (sendAlert k p s).management.queue = s.management.queue ∧
    (sendAlert k p s).management.snapshot = s.management.snapshot ∧
    (sendAlert k p s).management.mask = s.management.mask := by
  unfold sendAlert
  simp

@[simp] theorem sendPart_leaves (p : AnswerPart) (rest : List AnswerPart) (s : State) :
    (sendPart p rest s).pending = s.pending ∧ (sendPart p rest s).resetLine = s.resetLine ∧
    (sendPart p rest s).mntLine = s.mntLine ∧ (sendPart p rest s).link = s.link ∧
    (sendPart p rest s).front = s.front ∧ (sendPart p rest s).tracker = s.tracker ∧
    (sendPart p rest s).detector = s.detector ∧ (sendPart p rest s).demand = s.demand ∧
    (sendPart p rest s).controller = s.controller ∧ (sendPart p rest s).injection = s.injection ∧
    (sendPart p rest s).store = s.store ∧ (sendPart p rest s).records = s.records ∧
    (sendPart p rest s).loader = s.loader ∧
    (sendPart p rest s).management.alerts = s.management.alerts ∧
    (sendPart p rest s).management.mask = s.management.mask := by
  unfold sendPart
  simp

@[simp] theorem fillOutSlot_leaves (s : State) :
    (fillOutSlot s).pending = s.pending ∧ (fillOutSlot s).resetLine = s.resetLine ∧
    (fillOutSlot s).mntLine = s.mntLine ∧ (fillOutSlot s).link = s.link ∧
    (fillOutSlot s).front = s.front ∧ (fillOutSlot s).tracker = s.tracker ∧
    (fillOutSlot s).detector = s.detector ∧ (fillOutSlot s).demand = s.demand ∧
    (fillOutSlot s).controller = s.controller ∧ (fillOutSlot s).injection = s.injection ∧
    (fillOutSlot s).store = s.store ∧ (fillOutSlot s).records = s.records ∧
    (fillOutSlot s).loader = s.loader ∧ (fillOutSlot s).management.mask = s.management.mask := by
  unfold fillOutSlot
  (repeat' split) <;> simp

@[simp] theorem beforeSlot_leaves (s : State) :
    (beforeSlot s).pending = s.pending ∧ (beforeSlot s).resetLine = s.resetLine ∧
    (beforeSlot s).mntLine = s.mntLine ∧ (beforeSlot s).link = s.link ∧ (beforeSlot s).front = s.front ∧
    (beforeSlot s).demand = s.demand ∧ (beforeSlot s).management.slot = s.management.slot ∧
    (beforeSlot s).management.queue = s.management.queue ∧
    (beforeSlot s).management.snapshot = s.management.snapshot ∧
    (beforeSlot s).management.mask = s.management.mask ∧
    (beforeSlot s).controller.run = s.controller.run ∧ (beforeSlot s).store.level = s.store.level ∧
    (beforeSlot s).store.band = s.store.band ∧ (beforeSlot s).store.ready = s.store.ready ∧
    (beforeSlot s).store.lowArmed = s.store.lowArmed ∧ (beforeSlot s).tracker.live = s.tracker.live ∧
    (beforeSlot s).tracker.held = s.tracker.held ∧ (beforeSlot s).tracker.ref = s.tracker.ref ∧
    (beforeSlot s).tracker.settle = s.tracker.settle ∧
    (beforeSlot s).tracker.returnTimer = s.tracker.returnTimer ∧
    (beforeSlot s).tracker.marks = s.tracker.marks ∧
    (beforeSlot s).detector.trigger = s.detector.trigger ∧
    (beforeSlot s).detector.involved = s.detector.involved ∧
    (beforeSlot s).detector.elapsed = s.detector.elapsed ∧
    (beforeSlot s).detector.sagDuration = s.detector.sagDuration ∧
    (beforeSlot s).detector.phaseJump = s.detector.phaseJump ∧
    (beforeSlot s).detector.suspended = s.detector.suspended ∧
    (beforeSlot s).detector.sagStart = s.detector.sagStart ∧
    (beforeSlot s).detector.sagEnd = s.detector.sagEnd ∧ (beforeSlot s).loader.locks = s.loader.locks ∧
    (beforeSlot s).loader.sticky = s.loader.sticky := by
  unfold beforeSlot
  dsimp only
  (repeat' split) <;> simp

@[simp] theorem answerFrame_leaves (s : State) :
    (answerFrame s).pending = s.pending ∧ (answerFrame s).resetLine = s.resetLine ∧
    (answerFrame s).mntLine = s.mntLine ∧ (answerFrame s).link = s.link ∧
    (answerFrame s).front = s.front ∧ (answerFrame s).demand = s.demand ∧
    (answerFrame s).management.mask = s.management.mask ∧
    (answerFrame s).controller.run = s.controller.run ∧ (answerFrame s).store.level = s.store.level ∧
    (answerFrame s).store.band = s.store.band ∧ (answerFrame s).store.ready = s.store.ready ∧
    (answerFrame s).store.lowArmed = s.store.lowArmed ∧ (answerFrame s).tracker.live = s.tracker.live ∧
    (answerFrame s).tracker.held = s.tracker.held ∧ (answerFrame s).tracker.ref = s.tracker.ref ∧
    (answerFrame s).tracker.settle = s.tracker.settle ∧
    (answerFrame s).tracker.returnTimer = s.tracker.returnTimer ∧
    (answerFrame s).tracker.marks = s.tracker.marks ∧
    (answerFrame s).detector.trigger = s.detector.trigger ∧
    (answerFrame s).detector.involved = s.detector.involved ∧
    (answerFrame s).detector.elapsed = s.detector.elapsed ∧
    (answerFrame s).detector.sagDuration = s.detector.sagDuration ∧
    (answerFrame s).detector.phaseJump = s.detector.phaseJump ∧
    (answerFrame s).detector.suspended = s.detector.suspended ∧
    (answerFrame s).detector.sagStart = s.detector.sagStart ∧
    (answerFrame s).detector.sagEnd = s.detector.sagEnd ∧
    (answerFrame s).loader.locks = s.loader.locks ∧
    (answerFrame s).loader.sticky = s.loader.sticky := by
  unfold answerFrame
  simp

@[simp] theorem acceptFrame_leaves (c : StepClass) (f : SampleFrame) (s : State) :
    (acceptFrame c f s).pending = s.pending ∧ (acceptFrame c f s).resetLine = s.resetLine ∧
    (acceptFrame c f s).mntLine = s.mntLine ∧ (acceptFrame c f s).management.mask = s.management.mask ∧
    (acceptFrame c f s).controller.run = s.controller.run ∧
    (acceptFrame c f s).loader.locks = s.loader.locks ∧
    (acceptFrame c f s).loader.sticky = s.loader.sticky := by
  unfold acceptFrame
  simp [State.previous]

@[simp] theorem classifiedFrame_leaves (f : SampleFrame) (s : State) :
    (classifiedFrame f s).pending = s.pending ∧ (classifiedFrame f s).resetLine = s.resetLine ∧
    (classifiedFrame f s).mntLine = s.mntLine ∧
    (classifiedFrame f s).management.mask = s.management.mask ∧
    (classifiedFrame f s).controller.run = s.controller.run ∧
    (classifiedFrame f s).loader.locks = s.loader.locks ∧
    (classifiedFrame f s).loader.sticky = s.loader.sticky := by
  unfold classifiedFrame
  (repeat' split) <;> simp

@[simp] theorem sampleArrives_leaves (f : SampleFrame) (s : State) :
    (sampleArrives f s).pending = s.pending ∧ (sampleArrives f s).resetLine = s.resetLine ∧
    (sampleArrives f s).mntLine = s.mntLine ∧ (sampleArrives f s).management.mask = s.management.mask ∧
    (sampleArrives f s).controller.run = s.controller.run ∧
    (sampleArrives f s).loader.locks = s.loader.locks ∧
    (sampleArrives f s).loader.sticky = s.loader.sticky := by
  unfold sampleArrives
  (repeat' split) <;> simp

@[simp] theorem linkSilenced_leaves (s : State) :
    (linkSilenced s).pending = s.pending ∧ (linkSilenced s).resetLine = s.resetLine ∧
    (linkSilenced s).mntLine = s.mntLine ∧ (linkSilenced s).outPort = s.outPort ∧
    (linkSilenced s).front = s.front ∧ (linkSilenced s).tracker = s.tracker ∧
    (linkSilenced s).detector = s.detector ∧ (linkSilenced s).demand = s.demand ∧
    (linkSilenced s).controller = s.controller ∧ (linkSilenced s).injection = s.injection ∧
    (linkSilenced s).store = s.store ∧ (linkSilenced s).records = s.records ∧
    (linkSilenced s).loader = s.loader ∧ (linkSilenced s).management = s.management ∧
    (linkSilenced s).link.lastSeq = s.link.lastSeq ∧
    (linkSilenced s).link.counter = s.link.counter := by
  unfold linkSilenced
  simp

@[simp] theorem trackerSilenced_leaves (s : State) :
    (trackerSilenced s).pending = s.pending ∧ (trackerSilenced s).resetLine = s.resetLine ∧
    (trackerSilenced s).mntLine = s.mntLine ∧ (trackerSilenced s).outPort = s.outPort ∧
    (trackerSilenced s).link = s.link ∧ (trackerSilenced s).front = s.front ∧
    (trackerSilenced s).detector = s.detector ∧ (trackerSilenced s).demand = s.demand ∧
    (trackerSilenced s).controller = s.controller ∧ (trackerSilenced s).injection = s.injection ∧
    (trackerSilenced s).store = s.store ∧ (trackerSilenced s).records = s.records ∧
    (trackerSilenced s).loader = s.loader ∧ (trackerSilenced s).management.slot = s.management.slot ∧
    (trackerSilenced s).management.queue = s.management.queue ∧
    (trackerSilenced s).management.snapshot = s.management.snapshot ∧
    (trackerSilenced s).management.mask = s.management.mask ∧
    (trackerSilenced s).tracker.live = s.tracker.live ∧
    (trackerSilenced s).tracker.incLive = s.tracker.incLive ∧
    (trackerSilenced s).tracker.held = s.tracker.held ∧
    (trackerSilenced s).tracker.incHeld = s.tracker.incHeld ∧
    (trackerSilenced s).tracker.marks = s.tracker.marks := by
  unfold trackerSilenced
  simp

@[simp] theorem blocksSilenced_leaves (s : State) :
    (blocksSilenced s).pending = s.pending ∧ (blocksSilenced s).resetLine = s.resetLine ∧
    (blocksSilenced s).mntLine = s.mntLine ∧ (blocksSilenced s).outPort = s.outPort ∧
    (blocksSilenced s).front = s.front ∧ (blocksSilenced s).demand = s.demand ∧
    (blocksSilenced s).store = s.store ∧ (blocksSilenced s).loader = s.loader ∧
    (blocksSilenced s).management.slot = s.management.slot ∧
    (blocksSilenced s).management.queue = s.management.queue ∧
    (blocksSilenced s).management.snapshot = s.management.snapshot ∧
    (blocksSilenced s).management.mask = s.management.mask ∧
    (blocksSilenced s).controller.run = s.controller.run ∧
    (blocksSilenced s).controller.episode = s.controller.episode ∧
    (blocksSilenced s).records.nextSeq = s.records.nextSeq ∧
    (blocksSilenced s).link.lastSeq = s.link.lastSeq ∧
    (blocksSilenced s).link.counter = s.link.counter ∧
    (blocksSilenced s).tracker.live = s.tracker.live ∧
    (blocksSilenced s).tracker.incLive = s.tracker.incLive ∧
    (blocksSilenced s).tracker.held = s.tracker.held ∧
    (blocksSilenced s).tracker.incHeld = s.tracker.incHeld ∧
    (blocksSilenced s).detector.elapsed = s.detector.elapsed ∧
    (blocksSilenced s).detector.involved = s.detector.involved ∧
    (blocksSilenced s).detector.trigger = s.detector.trigger ∧
    (blocksSilenced s).detector.suspended = s.detector.suspended := by
  unfold blocksSilenced
  dsimp only
  simp

@[simp] theorem lowerAndApply_leaves (s : State) :
    (lowerAndApply s).pending = s.pending ∧ (lowerAndApply s).resetLine = s.resetLine ∧
    (lowerAndApply s).mntLine = s.mntLine ∧ (lowerAndApply s).outPort = s.outPort ∧
    (lowerAndApply s).link = s.link ∧ (lowerAndApply s).front = s.front ∧
    (lowerAndApply s).demand = s.demand ∧ (lowerAndApply s).injection = s.injection ∧
    (lowerAndApply s).records = s.records ∧ (lowerAndApply s).management.slot = s.management.slot ∧
    (lowerAndApply s).management.queue = s.management.queue ∧
    (lowerAndApply s).management.snapshot = s.management.snapshot ∧
    (lowerAndApply s).management.mask = s.management.mask ∧
    (lowerAndApply s).controller.run = s.controller.run ∧
    (lowerAndApply s).store.level = s.store.level ∧ (lowerAndApply s).store.band = s.store.band ∧
    (lowerAndApply s).store.ready = s.store.ready ∧
    (lowerAndApply s).store.lowArmed = s.store.lowArmed ∧
    (lowerAndApply s).tracker.live = s.tracker.live ∧ (lowerAndApply s).tracker.held = s.tracker.held ∧
    (lowerAndApply s).tracker.ref = s.tracker.ref ∧
    (lowerAndApply s).tracker.settle = s.tracker.settle ∧
    (lowerAndApply s).tracker.returnTimer = s.tracker.returnTimer ∧
    (lowerAndApply s).tracker.marks = s.tracker.marks ∧
    (lowerAndApply s).detector.trigger = s.detector.trigger ∧
    (lowerAndApply s).detector.involved = s.detector.involved ∧
    (lowerAndApply s).detector.elapsed = s.detector.elapsed ∧
    (lowerAndApply s).detector.sagDuration = s.detector.sagDuration ∧
    (lowerAndApply s).detector.phaseJump = s.detector.phaseJump ∧
    (lowerAndApply s).detector.suspended = s.detector.suspended ∧
    (lowerAndApply s).detector.sagStart = s.detector.sagStart ∧
    (lowerAndApply s).detector.sagEnd = s.detector.sagEnd ∧
    (lowerAndApply s).loader.locks = s.loader.locks ∧
    (lowerAndApply s).loader.sticky = s.loader.sticky := by
  unfold lowerAndApply
  (repeat' split) <;> simp

@[simp] theorem expiryRunning_leaves (s : State) :
    (expiryRunning s).pending = s.pending ∧ (expiryRunning s).resetLine = s.resetLine ∧
    (expiryRunning s).mntLine = s.mntLine ∧ (expiryRunning s).front = s.front ∧
    (expiryRunning s).demand = s.demand ∧ (expiryRunning s).management.mask = s.management.mask ∧
    (expiryRunning s).controller.run = s.controller.run ∧
    (expiryRunning s).records.nextSeq = s.records.nextSeq ∧
    (expiryRunning s).store.level = s.store.level ∧ (expiryRunning s).store.band = s.store.band ∧
    (expiryRunning s).store.ready = s.store.ready ∧
    (expiryRunning s).store.lowArmed = s.store.lowArmed ∧
    (expiryRunning s).loader.locks = s.loader.locks ∧
    (expiryRunning s).loader.sticky = s.loader.sticky ∧
    (expiryRunning s).link.lastSeq = s.link.lastSeq ∧
    (expiryRunning s).link.counter = s.link.counter := by
  unfold expiryRunning
  dsimp only
  (repeat' split) <;> simp

@[simp] theorem expiryHalted_leaves (s : State) :
    (expiryHalted s).pending = s.pending ∧ (expiryHalted s).resetLine = s.resetLine ∧
    (expiryHalted s).mntLine = s.mntLine ∧ (expiryHalted s).outPort = s.outPort ∧
    (expiryHalted s).front = s.front ∧ (expiryHalted s).tracker = s.tracker ∧
    (expiryHalted s).detector = s.detector ∧ (expiryHalted s).demand = s.demand ∧
    (expiryHalted s).controller = s.controller ∧ (expiryHalted s).injection = s.injection ∧
    (expiryHalted s).store = s.store ∧ (expiryHalted s).records = s.records ∧
    (expiryHalted s).loader = s.loader ∧ (expiryHalted s).management.slot = s.management.slot ∧
    (expiryHalted s).management.queue = s.management.queue ∧
    (expiryHalted s).management.snapshot = s.management.snapshot ∧
    (expiryHalted s).management.mask = s.management.mask := by
  unfold expiryHalted
  simp

@[simp] theorem silenceExpires_leaves (s : State) :
    (silenceExpires s).pending = s.pending ∧ (silenceExpires s).resetLine = s.resetLine ∧
    (silenceExpires s).mntLine = s.mntLine ∧ (silenceExpires s).front = s.front ∧
    (silenceExpires s).demand = s.demand ∧ (silenceExpires s).management.mask = s.management.mask ∧
    (silenceExpires s).controller.run = s.controller.run ∧
    (silenceExpires s).records.nextSeq = s.records.nextSeq ∧
    (silenceExpires s).store.level = s.store.level ∧ (silenceExpires s).store.band = s.store.band ∧
    (silenceExpires s).store.ready = s.store.ready ∧
    (silenceExpires s).store.lowArmed = s.store.lowArmed ∧
    (silenceExpires s).loader.locks = s.loader.locks ∧
    (silenceExpires s).loader.sticky = s.loader.sticky := by
  unfold silenceExpires
  (repeat' split) <;> simp

@[simp] theorem occasionArrives_leaves (o : Occasion) (s : State) :
    (occasionArrives o s).pending = s.pending ∧ (occasionArrives o s).resetLine = s.resetLine ∧
    (occasionArrives o s).mntLine = s.mntLine ∧
    (occasionArrives o s).management.mask = s.management.mask ∧
    (occasionArrives o s).controller.run = s.controller.run ∧
    (occasionArrives o s).loader.locks = s.loader.locks ∧
    (occasionArrives o s).loader.sticky = s.loader.sticky := by
  unfold occasionArrives
  (repeat' split) <;> simp

end Sys2Proof.Machine
end

