-- ==== Sys2Proof/Laws/Arrivals.lean ====
section
/-! SUPPORT. What an arrival comes to: an accepted frame, the out slot, a deferred application. -/

namespace Sys2Proof.Machine

/-! ### Every command answers a next state -/

/-- No command faults and none is refused. -/
theorem exec_isNext (c : Instr) (s : State) : ∃ t, exec c s = .next t := by
  cases c <;> exact ⟨_, rfl⟩

/-! ### An accepted frame -/

/-- An accepted frame runs through all its stages and fills its out slot. -/
theorem exec_sampleFrame_of_accepted {c : StepClass} {f : SampleFrame} {s : State}
    (h : accepted c f s = true) : exec (.sampleFrame f) s = .next (fillOutSlot (atSlot c f s)) := by
  unfold accepted at h
  simp only [Bool.and_eq_true, Bool.not_eq_true', beq_iff_eq] at h
  obtain ⟨⟨hr, hw⟩, hc⟩ := h
  have hn : (f.codes.length != Config.channelCount) = false := by
    unfold SampleFrame.wf at hw
    rw [bne, hw]
    rfl
  have hcl : classifiedFrame f s.begin = acceptFrame c f s.begin := by
    unfold classifiedFrame
    rw [link_begin, hc]
  change Host.Outcome.next (sampleArrives f s.begin) = _
  unfold sampleArrives
  rw [resetLine_begin, hr, hn, hcl]
  rfl

/-- An accepted frame finds the reset line released, 28 codes, and its class. -/
theorem accepted_iff (c : StepClass) (f : SampleFrame) (s : State) :
    accepted c f s = true ↔
      s.resetLine = false ∧ f.codes.length = 28 ∧ classify s.link f.seq = some c := by
  simp [accepted, SampleFrame.wf, Config.channelCount, and_assoc]

/-- The class of an accepted frame: a break has no gap frames, a normal step none, and a short gap up to
three (R2, R3). -/
theorem classify_kind_gap {l : Link} {seq : Word} {c : StepClass} (h : classify l seq = some c) :
    c.gap ≤ 3 ∧ (c.kind = .shortGap ↔ 1 ≤ c.gap) := by
  unfold classify at h
  dsimp only at h
  (repeat' split at h) <;> cases h <;> constructor <;> (try simp) <;> omega

/-! ### The out slot (R181) -/

/-- The out slot sends at most one frame. -/
theorem fillOutSlot_outPort (s : State) :
    (fillOutSlot s).outPort = s.outPort ∨ ∃ ws, (fillOutSlot s).outPort = s.outPort ++ [ws] := by
  unfold fillOutSlot
  split
  · exact .inr ⟨_, rfl⟩
  · split
    · exact .inr ⟨_, rfl⟩
    · split
      · exact .inr ⟨_, rfl⟩
      · exact .inl rfl

/-- The words of an ALERT frame are an ALERT frame of its kind and payload. -/
theorem isAlert_alertWords (s : State) (k : AlertKind) (p : Payload) :
    isAlert k p (alertWords s k p) = true := by
  have h : headerKind (headerWord 5 s.slotFree false) = 5 := by
    cases s.slotFree <;> decide
  simp [isAlert, alertWords, sealFrame, h]

/-- A first candidate is set, with its payload. -/
theorem firstCandidate_alerts {m : Management} {ks : List AlertKind} {k : AlertKind} {p : Payload}
    (h : m.firstCandidate ks = some (k, p)) : m.alerts.get k = some p ∧ m.mask.get k = true := by
  induction ks with
  | nil => cases h
  | cons j js ih =>
    unfold Management.firstCandidate at h
    split at h
    · rename_i hm ha
      cases h
      exact ⟨ha, hm⟩
    · exact ih h

/-- An alert that stands when the out slot is filled is reported afterwards (R181). -/
theorem fillOutSlot_reports {s : State} {k : AlertKind} {p : Payload}
    (h : s.management.alerts.get k = some p) : (fillOutSlot s).reports k p = true := by
  have sent : ∀ j q, s.management.alerts.get j = some q → (sendAlert j q s).reports k p = true := by
    intro j q hj
    by_cases hjk : j = k
    · subst hjk
      rw [h] at hj
      cases hj
      simp only [State.reports, Bool.or_eq_true]
      refine .inr ?_
      change (s.outPort ++ [alertWords s j p]).any (isAlert j p) = true
      simp [isAlert_alertWords]
    · simp only [State.reports, Bool.or_eq_true, decide_eq_true_eq]
      refine .inl ?_
      change (s.management.alerts.set j none).get k = some p
      rw [PerKind.get_set, if_neg hjk, h]
  have stands : ∀ t : State, t.management.alerts = s.management.alerts → t.reports k p = true := by
    intro t ht
    simp [State.reports, ht, h]
  unfold fillOutSlot
  split
  · exact sent _ _ (firstCandidate_alerts ‹_›).1
  · split
    · exact stands _ (by simp)
    · split
      · exact sent _ _ (firstCandidate_alerts ‹_›).1
      · exact stands _ rfl

/-- Whether a kind offers itself is its flag and its mask. -/
theorem offers_iff (u : State) (k : AlertKind) :
    u.offers k = true ↔ u.management.mask.get k = true ∧ ∃ p, u.management.alerts.get k = some p := by
  simp [State.offers, Option.isSome_iff_exists]

/-- There is no first candidate exactly when none of the kinds offers itself. -/
theorem firstCandidate_eq_none (u : State) (ks : List AlertKind) :
    u.management.firstCandidate ks = none ↔ ∀ k ∈ ks, u.offers k = false := by
  induction ks with
  | nil => simp [Management.firstCandidate]
  | cons k ks ih =>
    unfold Management.firstCandidate
    cases hm : u.management.mask.get k <;> cases ha : u.management.alerts.get k <;>
      simp [State.offers, hm, ha, ih]

/-- The first candidate of kinds in rising order offers itself, and no lower kind among them does. -/
theorem firstCandidate_least {u : State} {ks : List AlertKind} {k : AlertKind} {p : Payload}
    (hs : ks.Pairwise fun a b => a.number < b.number)
    (h : u.management.firstCandidate ks = some (k, p)) :
    k ∈ ks ∧ ∀ j ∈ ks, u.offers j = true → k.number ≤ j.number := by
  induction ks with
  | nil => cases h
  | cons i is ih =>
    rw [List.pairwise_cons] at hs
    unfold Management.firstCandidate at h
    split at h
    · cases h
      refine ⟨List.mem_cons_self, fun j hj _ => ?_⟩
      rcases List.mem_cons.1 hj with rfl | hj
      · exact Nat.le_refl _
      · exact Nat.le_of_lt (hs.1 j hj)
    · rename_i hn
      obtain ⟨hk, hl⟩ := ih hs.2 h
      refine ⟨List.mem_cons_of_mem _ hk, fun j hj ho => ?_⟩
      rcases List.mem_cons.1 hj with rfl | hj
      · obtain ⟨hm, q, hq⟩ := (offers_iff u j).1 ho
        exact absurd hq (hn q hm)
      · exact hl j hj ho

/-- A kind is of kinds 0..3 or of kinds 4..10. -/
theorem AlertKind.mem_kinds (k : AlertKind) :
    (k ∈ urgentKinds ↔ k.number < 4) ∧ (k ∈ otherKinds ↔ 4 ≤ k.number) := by
  cases k <;> decide

/-- A kind is known by its number. -/
theorem AlertKind.eq_of_number {j k : AlertKind} (h : j.number = k.number) : j = k := by
  cases j <;> cases k <;> first | rfl | cases h

/-- The out slot makes the choice of R181. -/
theorem fillOutSlot_choice (u : State) : slotChoice u (fillOutSlot u) := by
  have rising : urgentKinds.Pairwise (fun a b => a.number < b.number) ∧
      otherKinds.Pairwise (fun a b => a.number < b.number) := by decide
  have sent : ∀ (ks : List AlertKind) (k j : AlertKind) (p q : Payload),
      ks.Pairwise (fun a b => a.number < b.number) → j ∈ ks →
      u.management.alerts.get j = some p → u.offers j = true →
      (∀ i, u.offers i = true → j.number ≤ i.number) →
      u.management.firstCandidate ks = some (k, q) → k = j ∧ q = p := by
    intro ks k j p q hs hj hp ho hle hf
    have hk := firstCandidate_alerts hf
    have h1 := (firstCandidate_least hs hf).2 j hj ho
    have h2 := hle k ((offers_iff u k).2 ⟨hk.2, q, hk.1⟩)
    have hjk : k = j := AlertKind.eq_of_number (Nat.le_antisymm h1 h2)
    subst hjk
    rw [hk.1] at hp
    exact ⟨rfl, Option.some.inj hp⟩
  refine ⟨fun k p hp ho hle hc => ?_, fun part rest hq hno => ?_, fun hno hq => ?_⟩
  · cases hu : u.management.firstCandidate urgentKinds with
    | some a =>
      obtain ⟨k', q⟩ := a
      have hk' := firstCandidate_alerts hu
      have hlt : k'.number < 4 :=
        (AlertKind.mem_kinds k').1.1 (firstCandidate_least rising.1 hu).1
      have hle' := hle k' ((offers_iff u k').2 ⟨hk'.2, q, hk'.1⟩)
      obtain ⟨rfl, rfl⟩ := sent urgentKinds k' k p q rising.1
        ((AlertKind.mem_kinds k).1.2 (Nat.lt_of_le_of_lt hle' hlt)) hp ho hle hu
      have he : fillOutSlot u = sendAlert k' q u := by
        unfold fillOutSlot
        simp only [hu]
      rw [he]
      rfl
    | none =>
      have hk : ¬k.number < 4 := fun hlt => by
        have := (firstCandidate_eq_none u urgentKinds).1 hu k ((AlertKind.mem_kinds k).1.2 hlt)
        rw [ho] at this
        cases this
      have hq := hc.resolve_left hk
      cases hv : u.management.firstCandidate otherKinds with
      | some a =>
        obtain ⟨k', q⟩ := a
        obtain ⟨rfl, rfl⟩ := sent otherKinds k' k p q rising.2
          ((AlertKind.mem_kinds k).2.2 (Nat.le_of_not_lt hk)) hp ho hle hv
        have he : fillOutSlot u = sendAlert k' q u := by
          unfold fillOutSlot
          simp only [hu, hq, hv]
        rw [he]
        rfl
      | none =>
        have := (firstCandidate_eq_none u otherKinds).1 hv k
          ((AlertKind.mem_kinds k).2.2 (Nat.le_of_not_lt hk))
        rw [ho] at this
        cases this
  · have hu : u.management.firstCandidate urgentKinds = none :=
      (firstCandidate_eq_none u urgentKinds).2 fun j hj => by
        cases ho : u.offers j with
        | false => rfl
        | true => exact absurd ((AlertKind.mem_kinds j).1.1 hj) (Nat.not_lt.2 (hno j ho))
    have he : fillOutSlot u = sendPart part rest u := by
      unfold fillOutSlot
      simp only [hu, hq]
    rw [he]
    cases rest <;> rfl
  · have hf : ∀ ks, u.management.firstCandidate ks = none := fun ks =>
      (firstCandidate_eq_none u ks).2 fun j _ => hno j
    unfold fillOutSlot
    simp only [hf, hq]

/-- A raised alert is reported. -/
theorem reports_raise (s : State) (k : AlertKind) (p : Payload) : (s.raise k p).reports k p = true := by
  simp [State.reports, Management.raised]

/-! ### A deferred application (R164) -/

/-- With no load PENDING a deferred application does nothing. -/
theorem deferredApply_of_noPending {s : State} (h : noPending s = true) : deferredApply s = s := by
  unfold noPending at h
  unfold deferredApply
  split
  · rename_i hl
    rw [hl] at h
    cases h
  · rfl
  · rfl

/-- A PENDING image becomes the contents of its table, the load closes, and COMMIT_DONE stands (R164).
-/
theorem deferredApply_of_pending {s : State} {t : TableId} {n : Nat}
    (h : s.loader.load = .pending t n) :
    (deferredApply s).loader.tables = s.loader.tables.set t (some (stagingImage n s.loader.staging)) ∧
    (deferredApply s).loader.load = .idle ∧ (deferredApply s).loader.staging = [] ∧
    (deferredApply s).management.alerts.get .commitDone = some (payload1 t.number) := by
  have hd : deferredApply s = (applyTable t (stagingImage n s.loader.staging) (closeLoad s)).raise
      .commitDone (payload1 t.number) := by
    unfold deferredApply
    rw [h]
  rw [hd]
  refine ⟨?_, by simp, by simp, by simp [Management.raised]⟩
  simp [applyTable]

end Sys2Proof.Machine
end

