-- ==== Sys2Proof/Laws/Detector.lean ====
section
/-! SUPPORT. What each part of the sag detector's work on a frame does, and what it leaves. -/

namespace Sys2Proof.Machine

/-! ### Elapsed frames, fast suspension, phase jump (R45, R50, R55) -/

@[simp] theorem elapse_leaves (gap : Nat) (d : Detector) :
    (elapse gap d).state = d.state ∧ (elapse gap d).fast = d.fast ∧ (elapse gap d).slow = d.slow ∧
    (elapse gap d).recovery = d.recovery ∧ (elapse gap d).suspended = d.suspended ∧
    (elapse gap d).trigger = d.trigger ∧ (elapse gap d).involved = d.involved ∧
    (elapse gap d).endingElapsed = d.endingElapsed ∧ (elapse gap d).sagDuration = d.sagDuration ∧
    (elapse gap d).phaseJump = d.phaseJump ∧ (elapse gap d).sagStart = d.sagStart ∧
    (elapse gap d).sagEnd = d.sagEnd := by
  unfold elapse
  split <;> simp

/-- The elapsed frames advance in SAG and ENDING alone (R50). -/
theorem elapse_elapsed (gap : Nat) (d : Detector) :
    (elapse gap d).elapsed = if d.inSag then min 4294967295 (d.elapsed + gap + 1) else d.elapsed := by
  unfold elapse Detector.inSag
  cases d.state <;> rfl

@[simp] theorem suspend_leaves (kind : StepKind) (good : Bool) (d : Detector) :
    (suspend kind good d).state = d.state ∧ (suspend kind good d).fast = d.fast ∧
    (suspend kind good d).slow = d.slow ∧ (suspend kind good d).recovery = d.recovery ∧
    (suspend kind good d).trigger = d.trigger ∧ (suspend kind good d).involved = d.involved ∧
    (suspend kind good d).elapsed = d.elapsed ∧
    (suspend kind good d).endingElapsed = d.endingElapsed ∧
    (suspend kind good d).sagDuration = d.sagDuration ∧
    (suspend kind good d).phaseJump = d.phaseJump ∧ (suspend kind good d).sagStart = d.sagStart ∧
    (suspend kind good d).sagEnd = d.sagEnd := by
  unfold suspend
  cases kind <;> cases good <;> simp

/-- A break sets the suspension, and a good crossing in another frame clears it (R45). -/
theorem suspend_suspended (kind : StepKind) (good : Bool) (d : Detector) :
    (suspend kind good d).suspended = (kind == .brk || (!good && d.suspended)) := by
  unfold suspend
  cases kind <;> cases good <;> simp

@[simp] theorem jump_leaves (before : DetState) (m : TrackerMarks) (d : Detector) :
    (jump before m d).state = d.state ∧ (jump before m d).fast = d.fast ∧
    (jump before m d).slow = d.slow ∧ (jump before m d).recovery = d.recovery ∧
    (jump before m d).suspended = d.suspended ∧ (jump before m d).trigger = d.trigger ∧
    (jump before m d).involved = d.involved ∧ (jump before m d).elapsed = d.elapsed ∧
    (jump before m d).endingElapsed = d.endingElapsed ∧
    (jump before m d).sagDuration = d.sagDuration ∧ (jump before m d).sagStart = d.sagStart ∧
    (jump before m d).sagEnd = d.sagEnd := by
  unfold jump
  cases before <;> cases m.crossing <;> simp

/-- A crossing in a frame that began in SAG or ENDING gives the phase jump (R55). -/
theorem jump_phaseJump (before : DetState) (m : TrackerMarks) (d : Detector) :
    (jump before m d).phaseJump = if (before = .sag ∨ before = .ending) ∧ m.crossing = true then
      some (wrapped m.heldAdvanced) else d.phaseJump := by
  unfold jump
  cases before <;> cases m.crossing <;> rfl

/-- In a frame without valid levels the detector holds (R42): nothing of it changes but the elapsed frames,
the suspension, the phase jump and the events of the frame. -/
theorem detect_of_noLevels {prev : Previous} {kind : StepKind} {gap : Nat} {s : State} {d : Detector}
    (h : validLevels s.levels = none) :
    (detect prev kind gap s d).state = d.state ∧ (detect prev kind gap s d).fast = d.fast ∧
    (detect prev kind gap s d).slow = d.slow ∧ (detect prev kind gap s d).recovery = d.recovery ∧
    (detect prev kind gap s d).trigger = d.trigger ∧
    (detect prev kind gap s d).involved = d.involved ∧
    (detect prev kind gap s d).sagDuration = d.sagDuration ∧
    (detect prev kind gap s d).sagStart = false ∧ (detect prev kind gap s d).sagEnd = false := by
  unfold detect
  simp [h]

/-! ### The fast counters (R43, R47) -/

/-- With fast_enable 0 or the tracker not LOCKED a fast counter becomes 0, suspended or not and whatever the
previous level (R43, log 37). -/
theorem fastCount_of_off {s : State} (h : s.fastEnable = false ∨ s.tracker.lock ≠ .locked)
    (prev : Previous) (suspended : Bool) (p : Phase) (qualify n : Nat) :
    fastCount qualify (fastVerdict prev suspended s p) n = 0 := by
  have off : fastVerdict prev suspended s p = .off := by
    rcases h with h | h <;> simp [fastVerdict, h]
  rw [off]
  rfl

/-- In a LOCKED tracker with fast_enable 1 the suspension keeps a fast counter (R43). -/
theorem fastCount_of_suspended {s : State} (enabled : s.fastEnable = true)
    (locked : s.tracker.lock = .locked) (prev : Previous) (p : Phase) (qualify n : Nat) :
    fastCount qualify (fastVerdict prev true s p) n = n := by
  simp [fastVerdict, fastCount, enabled, locked]

/-! ### Qualification (R47, R48) -/

/-- A sag starts exactly when some phase qualifies on a counter (R48). -/
theorem triggerOf_eq_none (slowQ fastQ : Phases Bool) :
    triggerOf slowQ fastQ = none ↔ ∀ p, slowQ.get p = false ∧ fastQ.get p = false := by
  obtain ⟨a, b, c⟩ := slowQ
  obtain ⟨x, y, z⟩ := fastQ
  constructor
  · intro h p
    revert h
    cases a <;> cases b <;> cases c <;> cases x <;> cases y <;> cases z <;> cases p <;> decide
  · intro h
    obtain ⟨ha, hx⟩ := h .A
    obtain ⟨hb, hy⟩ := h .B
    obtain ⟨hc, hz⟩ := h .C
    cases ha; cases hb; cases hc; cases hx; cases hy; cases hz
    rfl

/-- Some phase has a mark exactly when one of the three has. -/
theorem anyPhase_iff (marks : Phases Bool) : anyPhase marks = true ↔ ∃ p, marks.get p = true := by
  obtain ⟨a, b, c⟩ := marks
  constructor
  · intro h
    cases a
    · cases b
      · exact ⟨.C, by simpa [anyPhase, Phases.get] using h⟩
      · exact ⟨.B, rfl⟩
    · exact ⟨.A, rfl⟩
  · rintro ⟨p, hp⟩
    cases p <;> simp only [Phases.get] at hp <;> simp [anyPhase, hp]

/-- Every phase has a mark exactly when each of the three has. -/
theorem everyPhase_iff (marks : Phases Bool) : everyPhase marks = true ↔ ∀ p, marks.get p = true := by
  obtain ⟨a, b, c⟩ := marks
  constructor
  · intro h p
    simp only [everyPhase, Bool.and_eq_true] at h
    cases p
    · exact h.1.1
    · exact h.1.2
    · exact h.2
  · intro h
    simp only [everyPhase, Bool.and_eq_true]
    exact ⟨⟨h .A, h .B⟩, h .C⟩

end Sys2Proof.Machine
end

