-- ==== Sys2Proof/Laws/Loader.lean ====
section
/-! SUPPORT. The staging buffer (R158, R160): what a write leaves at every index, and its canonical
    form. -/

namespace Sys2Proof.Machine

/-! ### Reading after writing -/

theorem readStaging_writeStaging (i j : Nat) (w : Word) (m : Staging) :
    readStaging j (writeStaging i w m) = if i = j then some w else readStaging j m := by
  induction m with
  | nil => simp only [writeStaging, readStaging]
  | cons c cs ih =>
    unfold writeStaging
    split
    · simp only [readStaging]
    · split
      · rename_i h₁ h₂
        simp only [readStaging]
        subst h₂
        split <;> rfl
      · rename_i h₁ h₂
        simp only [readStaging, ih]
        split
        · rename_i hc
          rw [if_neg (by omega)]
        · rfl

/-- What every index reads as after a run of words (R160). -/
theorem readStaging_writeRun (i j : Nat) (ws : List Word) (m : Staging) :
    readStaging j (writeRun i ws m) =
      if i ≤ j ∧ j < i + ws.length then some (ws.getD (j - i) 0) else readStaging j m := by
  induction ws generalizing i m with
  | nil =>
    rw [if_neg (by simp only [List.length_nil]; omega)]
    rfl
  | cons w ws ih =>
    simp only [writeRun, ih, readStaging_writeStaging, List.length_cons]
    by_cases h : i = j
    · subst h
      rw [if_neg (by omega), if_pos rfl, if_pos (by omega), Nat.sub_self]
      rfl
    · by_cases h' : i + 1 ≤ j ∧ j < i + 1 + ws.length
      · rw [if_pos h', if_pos (by omega), show j - i = (j - (i + 1)) + 1 by omega]
        rfl
      · rw [if_neg h', if_neg h, if_neg (by omega)]

/-- An image has one word for each index. -/
@[simp] theorem stagingImage_length (n : Nat) (m : Staging) : (stagingImage n m).length = n := by
  simp [stagingImage]

/-! ### Canonical form -/

theorem stagingAbove_writeStaging {a i : Nat} (w : Word) {m : Staging} (ha : a < i)
    (h : stagingAbove a m = true) : stagingAbove a (writeStaging i w m) = true := by
  induction m with
  | nil => simp [writeStaging, stagingAbove, ha]
  | cons c cs ih =>
    simp only [stagingAbove, Bool.and_eq_true, decide_eq_true_eq] at h
    unfold writeStaging
    split
    · simp [stagingAbove, ha, h]
    · split
      · simp [stagingAbove, ha, h]
      · simp [stagingAbove, h, ih h.2]

theorem stagingAbove_of_lt {a b : Nat} {m : Staging} (hab : a < b) (h : stagingAbove b m = true) :
    stagingAbove a m = true := by
  induction m with
  | nil => rfl
  | cons c cs ih =>
    simp only [stagingAbove, Bool.and_eq_true, decide_eq_true_eq] at h ⊢
    exact ⟨by omega, ih h.2⟩

/-- A write keeps the canonical form. -/
theorem stagingRising_writeStaging (i : Nat) (w : Word) {m : Staging} (h : stagingRising m = true) :
    stagingRising (writeStaging i w m) = true := by
  induction m with
  | nil => rfl
  | cons c cs ih =>
    have h' := h
    simp only [stagingRising, Bool.and_eq_true] at h
    unfold writeStaging
    split
    · rename_i hlt
      simp only [stagingRising, stagingAbove, Bool.and_eq_true, decide_eq_true_eq]
      exact ⟨⟨hlt, stagingAbove_of_lt hlt h.1⟩, h⟩
    · split
      · rename_i _ heq
        simp only [stagingRising, Bool.and_eq_true]
        rw [heq]
        exact h
      · simp only [stagingRising, Bool.and_eq_true]
        exact ⟨stagingAbove_writeStaging w (by omega) h.1, ih h.2⟩

/-- A run of words keeps the canonical form. -/
theorem stagingRising_writeRun (i : Nat) (ws : List Word) {m : Staging} (h : stagingRising m = true) :
    stagingRising (writeRun i ws m) = true := by
  induction ws generalizing i m with
  | nil => exact h
  | cons w ws ih => exact ih (i + 1) (stagingRising_writeStaging i w h)

/-- A write at an index below `n` keeps every index below `n`. -/
theorem stagingBelow_writeStaging {n i : Nat} (w : Word) {m : Staging} (hi : i < n)
    (h : stagingBelow n m = true) : stagingBelow n (writeStaging i w m) = true := by
  induction m with
  | nil => simp [writeStaging, stagingBelow, hi]
  | cons c cs ih =>
    simp only [stagingBelow, List.all_cons, Bool.and_eq_true, decide_eq_true_eq] at h
    unfold writeStaging
    split
    · simp only [stagingBelow, List.all_cons, Bool.and_eq_true, decide_eq_true_eq]
      exact ⟨hi, h⟩
    · split
      · simp only [stagingBelow, List.all_cons, Bool.and_eq_true, decide_eq_true_eq]
        exact ⟨hi, h.2⟩
      · have := ih h.2
        simp only [stagingBelow, List.all_cons, Bool.and_eq_true, decide_eq_true_eq] at this ⊢
        exact ⟨h.1, this⟩

/-- A run of words that ends by index `n` keeps every index below `n`. -/
theorem stagingBelow_writeRun {n i : Nat} {ws : List Word} {m : Staging} (hi : i + ws.length ≤ n)
    (h : stagingBelow n m = true) : stagingBelow n (writeRun i ws m) = true := by
  induction ws generalizing i m with
  | nil => exact h
  | cons w ws ih =>
    simp only [List.length_cons] at hi
    exact ih (by omega) (stagingBelow_writeStaging w (by omega) h)

end Sys2Proof.Machine
end

