-- ==== Sys2Proof/Laws/Records.lean ====
section
/-! SUPPORT. The record list under updates of its OPEN record, and the level windows under entries. -/

namespace Sys2Proof.Machine

/-! ### Outcomes (R151) -/

/-- Without an outcome the kept one stands. -/
@[simp] theorem worstAfter_none (kept : EntryOutcome) : worstAfter kept none = kept := rfl

/-- With an outcome the worse of the two stands. -/
@[simp] theorem worstAfter_some (kept o : EntryOutcome) : worstAfter kept (some o) = worse kept o := rfl

/-- NOT_ARMED ranks lowest and changes nothing. -/
@[simp] theorem worse_notArmed (kept : EntryOutcome) : worse kept .notArmed = kept := by
  cases kept <;> rfl

/-- An outcome handed to a record goes to the entry of its section alone. -/
theorem Record.handed_entries (k : Fin 4) (o : EntryOutcome) (r : Record) :
    (r.handed k o).entries = r.entries.map fun e =>
      { e with worst := if e.sec = k then worse e.worst o else e.worst } := by
  unfold Record.handed Entry.handed
  refine List.map_congr_left fun e _ => ?_
  split <;> rfl

/-! ### The newest record -/

/-- Updating the OPEN record changes the newest record and no other. -/
theorem updateOpen_append (g : Record → Record) (rs : List Record) (r : Record) :
    updateOpen g (rs ++ [r]) = rs ++ [if r.isOpen then g r else r] := by
  induction rs with
  | nil => rfl
  | cons q qs ih =>
    cases qs with
    | nil => rfl
    | cons p ps =>
      have : updateOpen g (q :: ((p :: ps) ++ [r])) = q :: updateOpen g ((p :: ps) ++ [r]) := rfl
      rw [List.cons_append, this, ih]
      rfl

@[simp] theorem updateOpen_length (g : Record → Record) (rs : List Record) :
    (updateOpen g rs).length = rs.length := by
  rcases List.eq_nil_or_concat rs with h | ⟨qs, r, h⟩
  · simp [h, updateOpen]
  · rw [h, List.concat_eq_append, updateOpen_append]
    simp

@[simp] theorem updateOpen_dropLast (g : Record → Record) (rs : List Record) :
    (updateOpen g rs).dropLast = rs.dropLast := by
  rcases List.eq_nil_or_concat rs with h | ⟨qs, r, h⟩
  · simp [h, updateOpen]
  · rw [h, List.concat_eq_append, updateOpen_append]
    simp

/-- The OPEN record is the newest, and OPEN. -/
theorem openRecord_eq_some {rs : List Record} {r : Record} :
    openRecord rs = some r ↔ rs.getLast? = some r ∧ r.isOpen = true := by
  unfold openRecord newest
  cases h : rs.getLast? with
  | none => simp
  | some q =>
    simp only [Option.some.injEq]
    split
    · rename_i hq
      constructor
      · intro he
        cases he
        exact ⟨rfl, hq⟩
      · intro he
        rw [he.1]
    · rename_i hq
      constructor
      · intro he
        cases he
      · intro he
        rw [← he.1] at he
        exact absurd he.2 hq

/-- The newest record after an update, when there is an OPEN record. -/
theorem updateOpen_getLast {g : Record → Record} {rs : List Record} {r : Record}
    (h : openRecord rs = some r) : (updateOpen g rs).getLast? = some (g r) := by
  obtain ⟨hl, ho⟩ := openRecord_eq_some.mp h
  rcases List.eq_nil_or_concat rs with hn | ⟨qs, q, hc⟩
  · rw [hn] at hl
    cases hl
  · rw [hc, List.concat_eq_append] at hl ⊢
    simp only [List.getLast?_append, List.getLast?_singleton, Option.some_or, Option.some.injEq] at hl
    subst hl
    rw [updateOpen_append, if_pos ho]
    simp

/-- With no OPEN record an update does nothing. -/
theorem updateOpen_of_none {g : Record → Record} {rs : List Record} (h : openRecord rs = none) :
    updateOpen g rs = rs := by
  rcases List.eq_nil_or_concat rs with hn | ⟨qs, q, hc⟩
  · simp [hn, updateOpen]
  · rw [hc, List.concat_eq_append] at h ⊢
    rw [updateOpen_append]
    cases ho : q.isOpen with
    | false => simp
    | true => simp [openRecord, newest, ho] at h

/-! ### The level windows -/

/-- A value that enters a lawful window leaves it lawful (R14). -/
theorem enter_lawful {w : Window} (z : Int) (h : w.lawful = true) : (w.enter z).lawful = true := by
  simp only [Window.lawful, Bool.and_eq_true, decide_eq_true_eq, beq_iff_eq] at h ⊢
  unfold Config.windowSize at h ⊢
  obtain ⟨hl, hs⟩ := h
  unfold Window.enter
  unfold Config.windowSize
  split
  · rename_i hlt
    simp only [List.length_append, List.length_cons, List.length_nil, List.map_append, List.map_cons,
      List.map_nil, List.sum_append, List.sum_cons, List.sum_nil]
    omega
  · rename_i hge
    cases hv : w.values with
    | nil => rw [hv] at hge; simp at hge
    | cons y ys =>
      rw [hv] at hl hs hge
      simp only [List.length_cons, List.map_cons, List.sum_cons] at hl hs
      simp only [List.tail_cons, List.headD_cons, List.length_append, List.length_cons,
        List.length_nil, List.map_append, List.map_cons, List.map_nil, List.sum_append,
        List.sum_cons, List.sum_nil]
      omega

/-- The values of a window after an entry: the newest 64 (R14). -/
theorem enter_values {w : Window} (z : Int) (h : w.values.length ≤ 64) :
    (w.enter z).values = (w.values ++ [z]).drop ((w.values ++ [z]).length - 64) := by
  unfold Window.enter Config.windowSize
  simp only [List.length_append, List.length_cons, List.length_nil]
  split
  · rename_i hlt
    rw [show w.values.length + (0 + 1) - 64 = 0 by omega, List.drop_zero]
  · rename_i hge
    rw [show w.values.length + (0 + 1) - 64 = 1 by omega]
    cases hv : w.values with
    | nil => rw [hv] at hge; simp at hge
    | cons y ys => rfl

end Sys2Proof.Machine
end

