-- ==== Sys2Proof/Laws/Requests.lean ====
section
/-! SUPPORT. The request slot (R171, R172, R174): what a MANAGE frame comes to, and how a request's
    effect
becomes its answer. -/

namespace Sys2Proof.Machine

/-- A MANAGE frame under an asserted reset line is discarded without trace (R5). -/
theorem serve_of_resetLine {s : State} (r : Request) (effect : Effect) (h : s.resetLine = true) :
    serve r effect s = s := by
  simp [serve, h]

/-- A MANAGE frame that finds the slot occupied is discarded with REQUEST_OVERRUN (R172). -/
theorem serve_of_occupied {s : State} {r : Request} (effect : Effect) (hr : s.resetLine = false)
    (hd : r.data.length = 16) (h : s.management.slot.isSome = true) :
    serve r effect s = s.raise .requestOverrun noPayload := by
  simp [serve, hr, hd, h]

/-- A MANAGE frame that finds the slot empty is accepted (R171). -/
theorem serve_of_slotOpen {s : State} {r : Request} (effect : Effect) (hd : r.data.length = 16)
    (h : slotOpen s = true) : serve r effect s.begin = acceptRequest r effect s.begin := by
  unfold slotOpen at h
  simp only [Bool.and_eq_true, Bool.not_eq_true', Option.isNone_iff_eq_none] at h
  simp [serve, h.1, h.2, hd]

/-- A request of up to three arguments has sixteen data words. -/
@[simp] theorem plain_data_length (code : Nat) (a b c : Word) :
    (Request.plain code a b c).data.length = 16 := by
  simp [Request.plain]

/-- A request whose effect changes nothing and that answers one part: only slot and queue are new. -/
theorem acceptRequest_unchanged {s : State} (r : Request) {effect : Effect} {res : ResultCode}
    {ws : List Word}
    (h : effect { s.begin with management := { s.begin.management with slot := some r } } =
      ({ s.begin with management := { s.begin.management with slot := some r } },
        ⟨res, [.words ws]⟩)) :
    acceptRequest r effect s.begin = s.taken r res ws := by
  unfold acceptRequest
  rw [h]
  rfl

/-- A section argument in range runs the effect on that section (R174). -/
theorem onSection_of_toNat {w : Word} {k : Fin 4} (effect : Fin 4 → Effect) (h : w.toNat = k.val + 1) :
    onSection w effect = effect k := by
  funext s
  simp [onSection, sectionArg_of_toNat h]

/-- A section argument out of range is answered BAD_ARGUMENT (R174). -/
theorem onSection_of_out {w : Word} (effect : Fin 4 → Effect) (h : w.toNat < 1 ∨ 4 < w.toNat) :
    onSection w effect = fun s => (s, Reply.code .badArgument) := by
  funext s
  simp [onSection, sectionArg_eq_none h]

/-- A table identifier in range runs the effect on that table (R186). -/
theorem onTable_of_toNat {w : Word} {t : TableId} (effect : TableId → Effect) (h : w.toNat = t.number) :
    onTable w effect = effect t := by
  funext s
  simp [onTable, h, TableId.ofNat?_number]

/-- A table identifier out of range is answered BAD_ARGUMENT (R186). -/
theorem onTable_of_out {w : Word} (effect : TableId → Effect) (h : 5 < w.toNat) :
    onTable w effect = fun s => (s, Reply.code .badArgument) := by
  funext s
  simp [onTable, TableId.ofNat?_eq_none h]

/-- A one-part answer is one part of one, with the request's code (R173). -/
@[simp] theorem Reply.parts_one (res : ResultCode) (body : PartBody) (code : Word) :
    (Reply.mk res [body]).parts code = [⟨code, res, 1, 1, body⟩] := rfl

end Sys2Proof.Machine
end

