-- ==== Sys2Proof/Laws/Sections.lean ====
section
/-! SUPPORT. One section's frame: what the updates leave, what no decision touches, and where a section
stays. -/

namespace Sys2Proof.Machine

/-- The updates before the decision touch only the filter, the confirm timer with its first-frame mark,
and the overcurrent count (R83). -/
@[simp] theorem updated_leaves (v : SectionView) (x : Section) :
    (x.updated v).state = x.state ∧ (x.updated v).service = x.service ∧
    (x.updated v).confirm = x.confirm ∧ (x.updated v).confirmTimedOut = x.confirmTimedOut ∧
    (x.updated v).closeSeen = x.closeSeen ∧ (x.updated v).faultCause = x.faultCause ∧
    (x.updated v).pendingReq = x.pendingReq ∧ (x.updated v).eligible = x.eligible ∧
    (x.updated v).hold = x.hold ∧ (x.updated v).lastLeave = x.lastLeave ∧
    (x.updated v).lastArm = x.lastArm := by
  simp only [Section.updated, Section.counted, Section.timed, Section.filtered]
  (repeat' split) <;> simp

/-- A CLOSE confirm that is continued or begun is a CLOSE confirm, and nothing else moves. -/
@[simp] theorem closeInFrame_leaves (x : Section) :
    x.closeInFrame.confirm = .closing ∧ x.closeInFrame.state = x.state ∧
    x.closeInFrame.service = x.service ∧ x.closeInFrame.feedback = x.feedback ∧
    x.closeInFrame.filterCount = x.filterCount ∧ x.closeInFrame.hold = x.hold ∧
    x.closeInFrame.pendingReq = x.pendingReq ∧ x.closeInFrame.eligible = x.eligible ∧
    x.closeInFrame.lastLeave = x.lastLeave ∧ x.closeInFrame.lastArm = x.lastArm := by
  unfold Section.closeInFrame
  split
  · rename_i h
    simp [h]
  · simp [Section.beginConfirm]

@[simp] theorem closeByRequest_leaves (x : Section) :
    x.closeByRequest.confirm = .closing ∧ x.closeByRequest.state = x.state ∧
    x.closeByRequest.service = x.service ∧ x.closeByRequest.feedback = x.feedback ∧
    x.closeByRequest.filterCount = x.filterCount ∧ x.closeByRequest.hold = x.hold ∧
    x.closeByRequest.pendingReq = x.pendingReq ∧ x.closeByRequest.eligible = x.eligible ∧
    x.closeByRequest.lastLeave = x.lastLeave ∧ x.closeByRequest.lastArm = x.lastArm := by
  unfold Section.closeByRequest
  split
  · rename_i h
    simp [h]
  · simp [Section.beginConfirmByRequest]

/-! ### What no decision of R84 touches: the accepted feedback, the filter count, the operator hold -/

@[simp] theorem Section.dropPending_leaves (x : Section) :
    x.dropPending.feedback = x.feedback ∧ x.dropPending.filterCount = x.filterCount ∧
    x.dropPending.hold = x.hold := by
  unfold Section.dropPending
  (repeat' split) <;> simp

@[simp] theorem Section.beginConfirm_leaves (c : Confirm) (x : Section) :
    (x.beginConfirm c).feedback = x.feedback ∧ (x.beginConfirm c).filterCount = x.filterCount ∧
    (x.beginConfirm c).hold = x.hold := by
  unfold Section.beginConfirm
  simp

@[simp] theorem Section.endConfirm_leaves (x : Section) :
    x.endConfirm.feedback = x.feedback ∧ x.endConfirm.filterCount = x.filterCount ∧
    x.endConfirm.hold = x.hold := by
  unfold Section.endConfirm
  simp

@[simp] theorem Section.armedNow_leaves (x : Section) :
    x.armedNow.feedback = x.feedback ∧ x.armedNow.filterCount = x.filterCount ∧
    x.armedNow.hold = x.hold := by
  unfold Section.armedNow
  simp

@[simp] theorem Section.startClosing_leaves (x : Section) :
    x.startClosing.feedback = x.feedback ∧ x.startClosing.filterCount = x.filterCount ∧
    x.startClosing.hold = x.hold := by
  unfold Section.startClosing
  simp

@[simp] theorem enterFault_leaves (k : Fin 4) (c : Cause) (x : Section) :
    (enterFault k c x).sec.feedback = x.feedback ∧ (enterFault k c x).sec.filterCount = x.filterCount ∧
    (enterFault k c x).sec.hold = x.hold := by
  unfold enterFault
  simp

@[simp] theorem leaveToBypassed_leaves (k : Fin 4) (c : Cause) (e : Bool) (o : EntryOutcome) (x :
    Section) :
    (leaveToBypassed k c e o x).sec.feedback = x.feedback ∧ (leaveToBypassed k c e o x).sec.filterCount
      = x.filterCount ∧
    (leaveToBypassed k c e o x).sec.hold = x.hold := by
  unfold leaveToBypassed
  simp

@[simp] theorem leaveToReleasing_leaves (k : Fin 4) (c : Cause) (e : Bool) (o : EntryOutcome) (x :
    Section) :
    (leaveToReleasing k c e o x).sec.feedback = x.feedback ∧ (leaveToReleasing k c e o
      x).sec.filterCount = x.filterCount ∧
    (leaveToReleasing k c e o x).sec.hold = x.hold := by
  unfold leaveToReleasing
  simp

@[simp] theorem enterInjecting_leaves (k : Fin 4) (o : Band) (x : Section) :
    (enterInjecting k o x).sec.feedback = x.feedback ∧ (enterInjecting k o x).sec.filterCount =
      x.filterCount ∧
    (enterInjecting k o x).sec.hold = x.hold := by
  unfold enterInjecting
  (repeat' split) <;> simp

@[simp] theorem atBoundary_leaves (v : SectionView) (x : Section) :
    (atBoundary v x).feedback = x.feedback ∧ (atBoundary v x).filterCount = x.filterCount ∧
    (atBoundary v x).hold = x.hold := by
  unfold atBoundary
  dsimp only
  (repeat' split) <;> simp

@[simp] theorem decideBypassed_leaves (v : SectionView) (x : Section) :
    (decideBypassed v x).sec.feedback = x.feedback ∧ (decideBypassed v x).sec.filterCount =
      x.filterCount ∧
    (decideBypassed v x).sec.hold = x.hold := by
  unfold decideBypassed
  (repeat' split) <;> simp [Moved.quiet]

@[simp] theorem armedAtSagStart_leaves (k : Fin 4) (v : SectionView) (x : Section) :
    (armedAtSagStart k v x).sec.feedback = x.feedback ∧ (armedAtSagStart k v x).sec.filterCount =
      x.filterCount ∧
    (armedAtSagStart k v x).sec.hold = x.hold := by
  unfold armedAtSagStart
  (repeat' split) <;> simp

@[simp] theorem decideArmed_leaves (k : Fin 4) (v : SectionView) (o : Bool) (x : Section) :
    (decideArmed k v o x).sec.feedback = x.feedback ∧ (decideArmed k v o x).sec.filterCount =
      x.filterCount ∧
    (decideArmed k v o x).sec.hold = x.hold := by
  unfold decideArmed
  (repeat' split) <;> simp [Moved.quiet]

@[simp] theorem decideWatching_leaves (k : Fin 4) (v : SectionView) (o : Bool) (x : Section) :
    (decideWatching k v o x).sec.feedback = x.feedback ∧ (decideWatching k v o x).sec.filterCount =
      x.filterCount ∧
    (decideWatching k v o x).sec.hold = x.hold := by
  unfold decideWatching
  (repeat' split) <;> simp [Moved.quiet]

@[simp] theorem injectingAtSagEnd_leaves (v : SectionView) (x : Section) :
    (injectingAtSagEnd v x).feedback = x.feedback ∧ (injectingAtSagEnd v x).filterCount = x.filterCount
      ∧
    (injectingAtSagEnd v x).hold = x.hold := by
  unfold injectingAtSagEnd
  (repeat' split) <;> simp

@[simp] theorem injectingUnderOrders_leaves (k : Fin 4) (v : SectionView) (x : Section) :
    (injectingUnderOrders k v x).sec.feedback = x.feedback ∧ (injectingUnderOrders k v
      x).sec.filterCount = x.filterCount ∧
    (injectingUnderOrders k v x).sec.hold = x.hold := by
  unfold injectingUnderOrders
  (repeat' split) <;> simp [Moved.quiet]

theorem openHazard_leaves {k : Fin 4} {v : SectionView} {a b : Bool} {x : Section} {m : Moved}
    (h : openHazard k v a b x = some m) : m.sec.feedback = x.feedback ∧
    m.sec.filterCount = x.filterCount ∧ m.sec.hold = x.hold := by
  unfold openHazard at h
  (repeat' split at h) <;> cases h <;> simp

@[simp] theorem decideInjecting_leaves (k : Fin 4) (v : SectionView) (a b : Bool) (x : Section) :
    (decideInjecting k v a b x).sec.feedback = x.feedback ∧ (decideInjecting k v a b x).sec.filterCount
      = x.filterCount ∧
    (decideInjecting k v a b x).sec.hold = x.hold := by
  unfold decideInjecting
  split
  · exact openHazard_leaves ‹_›
  · (repeat' split) <;> simp [Moved.quiet]

@[simp] theorem slewingAtSagStart_leaves (k : Fin 4) (v : SectionView) (x : Section) :
    (slewingAtSagStart k v x).sec.feedback = x.feedback ∧ (slewingAtSagStart k v x).sec.filterCount =
      x.filterCount ∧
    (slewingAtSagStart k v x).sec.hold = x.hold := by
  unfold slewingAtSagStart
  (repeat' split) <;> simp

@[simp] theorem decideSlewing_leaves (k : Fin 4) (v : SectionView) (a b : Bool) (x : Section) :
    (decideSlewing k v a b x).sec.feedback = x.feedback ∧ (decideSlewing k v a b x).sec.filterCount =
      x.filterCount ∧
    (decideSlewing k v a b x).sec.hold = x.hold := by
  unfold decideSlewing
  split
  · exact openHazard_leaves ‹_›
  · (repeat' split) <;> simp [Moved.quiet]

@[simp] theorem closedToArmed_leaves (v : SectionView) (x : Section) :
    (closedToArmed v x).sec.feedback = x.feedback ∧ (closedToArmed v x).sec.filterCount = x.filterCount
      ∧
    (closedToArmed v x).sec.hold = x.hold := by
  unfold closedToArmed
  dsimp only
  split <;> simp [Moved.quiet]

@[simp] theorem closeStuckFault_leaves (k : Fin 4) (x : Section) :
    (closeStuckFault k x).sec.feedback = x.feedback ∧ (closeStuckFault k x).sec.filterCount =
      x.filterCount ∧
    (closeStuckFault k x).sec.hold = x.hold := by
  unfold closeStuckFault
  simp

@[simp] theorem decideClosing_leaves (k : Fin 4) (v : SectionView) (a b : Bool) (x : Section) :
    (decideClosing k v a b x).sec.feedback = x.feedback ∧ (decideClosing k v a b x).sec.filterCount =
      x.filterCount ∧
    (decideClosing k v a b x).sec.hold = x.hold := by
  unfold decideClosing
  (repeat' split) <;> simp [Moved.quiet]

@[simp] theorem decideReleasing_leaves (k : Fin 4) (a b : Bool) (x : Section) :
    (decideReleasing k a b x).sec.feedback = x.feedback ∧ (decideReleasing k a b x).sec.filterCount =
      x.filterCount ∧
    (decideReleasing k a b x).sec.hold = x.hold := by
  unfold decideReleasing
  (repeat' split) <;> simp [Moved.quiet]

@[simp] theorem decideFault_leaves (k : Fin 4) (a b c : Bool) (x : Section) :
    (decideFault k a b c x).sec.feedback = x.feedback ∧ (decideFault k a b c x).sec.filterCount =
      x.filterCount ∧
    (decideFault k a b c x).sec.hold = x.hold := by
  unfold decideFault
  (repeat' split) <;> simp [Moved.quiet]

@[simp] theorem decideByState_leaves (k : Fin 4) (v : SectionView) (n : ConfirmNews) (x : Section) :
    (decideByState k v n x).sec.feedback = x.feedback ∧ (decideByState k v n x).sec.filterCount =
      x.filterCount ∧
    (decideByState k v n x).sec.hold = x.hold := by
  unfold decideByState
  (repeat' split) <;> simp [Moved.quiet]

/-! ### Where a section stays or goes -/

/-- An OUT section stays OUT and raises nothing: no entry of R84 reaches it (R84). -/
theorem decideByState_out (k : Fin 4) (v : SectionView) (n : ConfirmNews) {x : Section}
    (h : x.state = .out) : decideByState k v n x = Moved.quiet x := by
  simp [decideByState, bridgeFaultDue, h]

/-- A bridge fault takes every section but an OUT or FAULT one to FAULT (R97). -/
theorem decideByState_bridge (k : Fin 4) {v : SectionView} (n : ConfirmNews) {x : Section}
    (hb : v.status.bridgeFault = true) (ho : x.state ≠ .out) (hf : x.state ≠ .fault) :
    decideByState k v n x = enterFault k .bridge x := by
  simp [decideByState, bridgeFaultDue, hb, ho, hf]

/-- A section entering FAULT (R105, R108). -/
@[simp] theorem enterFault_sec (k : Fin 4) (c : Cause) (x : Section) :
    (enterFault k c x).sec.state = .fault ∧ (enterFault k c x).sec.faultCause = some c ∧
    (enterFault k c x).sec.closeSeen = false ∧ (enterFault k c x).sec.eligible = false ∧
    (enterFault k c x).sec.pendingReq = .none ∧ (enterFault k c x).sec.confirm = .closing ∧
    (enterFault k c x).sec.hold = x.hold ∧ (enterFault k c x).sec.service = x.service := by
  simp [enterFault, Section.dropPending]

end Sys2Proof.Machine
end

