-- ==== Sys2Proof/Tests/Slice0.lean ====
section
/-! SUPPORT. Tests: ill-formed commands are refused, the manual's worked numbers come out, small steps do what
their rules say, and for every statement with hypotheses a state and operands that meet them. -/

namespace Sys2Proof.Tests

set_option Elab.async false

open Sys2Proof.Machine

/-! ### A small engine to test on -/

/-- The engine after a command. -/
def after (c : Instr) (s : State) : State :=
  match exec c s with
  | .next t => t
  | _ => s

/-- Section k's entry of the Section Table: class k, RESTORE but for section 2, filter length 2. -/
def sectionEntry (k : Nat) : List Word :=
  [1, Word.ofNat k, if k = 1 then 1 else 0, 1000, 500, 2000, 0, 50, 4, 4, 2, 1]

/-- Valid images of the six tables. -/
def images : Tables (Option (List Word)) :=
  { calibration := some ((List.range 28).flatMap fun _ => [16384, 0])
    supply := some [1, 100, 2, 900, 950, 2, 2]
    sections := some ((List.range 4).flatMap sectionEntry)
    curves := some [1, 1, 900, 10, 500]
    store := some [600, 50, 500, 550, 600, 650, 200, 250, 300, 350]
    reference := some [20, 512, 2, 500, 2, 64, 20, 500] }

/-- A full window of one value. -/
def steady (v : Nat) : Window := ⟨List.replicate 64 v, 64 * (v * v)⟩

/-- The 28 values of a frame: supply and load voltages `v`, load currents 100, DC value `dc`. -/
def valuesOf (v dc : Int) : List Int :=
  [v, v, v] ++ (List.replicate 4 [v, v, v, 100, 100, 100]).flatten ++ [dc]

/-- A SAMPLE frame with those values. -/
def frameOf (seq : Word) (v dc : Int) (status : Word) : SampleFrame :=
  ⟨seq, (valuesOf v dc).map Word.ofInt, status⟩

/-- Every driver ready, every bypass closed. -/
def allReady : Word := 0x4444

/-- A configured, running, locked engine whose voltages stand at `v`, sections BYPASSED, all quiet. -/
def engine (v : Nat) : State :=
  { State.reset with
    link := ⟨.running, 10, 100, some 500⟩
    front :=
      { held := some (valuesOf v 8192), status := Four.all ⟨.closed, false, true⟩
        supplyWin := Phases.all (steady v), loadWin := Four.all (Phases.all (steady v)), gap := 0
        published := some ⟨100, .normal, 0, valuesOf v 8192, Four.all ⟨.closed, false, true⟩,
          ⟨Phases.all (steady v).level, Four.all (Phases.all (steady v).level)⟩⟩ }
    tracker := { Tracker.reset with live := 1000, lock := .locked, good := 8 }
    controller := ⟨.running, false, Four.all { Section.reset with state := .bypassed }⟩
    store := { Allocator.reset with
      level := 1000
      levels := images.store.map deriveLevels
      band := Four.all .serve, ready := Four.all true, lowArmed := true }
    loader := { Loader.reset with tables := images } }

/-- The engine with every section given. -/
def sections (x : Section) (s : State) : State := s.withSections (Four.all x)

/-- The engine with its tracker given. -/
def withTracker (g : Tracker → Tracker) (s : State) : State := { s with tracker := g s.tracker }

/-- The engine with its detector given. -/
def withDetector (g : Detector → Detector) (s : State) : State := { s with detector := g s.detector }

/-- An OPEN record of an engine in an episode. -/
def sagRecord : Record :=
  { seq := 7, isOpen := true, startFrame := 90, trigger := ⟨.slow, .A⟩, involved := Phases.all true
    sagDuration := none, episodeDuration := none, minSupply := Phases.all none, phaseJump := none
    fStart := 1000, fLowest := 1000, forced := false, endCause := none
    entries := four.map Entry.new }

/-- The engine in an episode with its OPEN record. -/
def inEpisode (s : State) : State :=
  { s with
    controller := { s.controller with episode := true }
    records := ⟨[sagRecord], 8⟩ }

/-- The engine with the request slot occupied by a request whose answer waits. -/
def busy (s : State) : State :=
  { s with management := { s.management with
      slot := some (Request.plain 1 0 0 0), queue := [⟨1, .ok, 1, 1, .words []⟩] } }

/-- The next frame in sequence of a nominal engine. -/
def nextFrame : SampleFrame := frameOf 11 5793 8192 allReady

/-- The next frame in sequence of an engine in a sag. -/
def lowFrame : SampleFrame := frameOf 11 4000 8192 allReady

/-- The class of the next frame in sequence. -/
def normal : StepClass := ⟨.normal, 0⟩

/-! ### WellFormed refuses what no frame can carry -/

theorem test_wf_codes : (Instr.sampleFrame ⟨1, [0], 0⟩).wf = false := by decide
theorem test_wf_event_codes : (Instr.sagStart ⟨1, [], 0⟩).wf = false := by decide
theorem test_wf_occasion : (Instr.alertFrame (.sample ⟨1, [], 0⟩)).wf = false := by decide
theorem test_wf_passing_words :
    (Instr.discardWithoutTrace (wordsOfRequest (Request.plain 1 0 0 0))).wf = false := by decide +kernel
theorem test_wf_known_code : (Instr.unknownRequest 21 0 0 0 (List.replicate 16 0)).wf = false := by
  decide
theorem test_wf_unknown_data : (Instr.unknownRequest 22 0 0 0 []).wf = false := by decide
theorem test_wf_load_data : (Instr.loadWords 0 1 [7]).wf = false := by decide
theorem test_wf_accepts : (Instr.sampleFrame nextFrame).wf = true ∧
    (Instr.unknownRequest 22 0 0 0 (List.replicate 16 0)).wf = true ∧
    (Instr.loadWords 0 1 (List.replicate 16 7)).wf = true ∧
    (Instr.discardWithoutTrace [1, 2, 3]).wf = true := by decide +kernel

/-! ### The manual's numbers -/

/-- R11: offset, gain, ties away from zero, saturation. -/
theorem test_calibrate : calibrate 1 0 8192 = 1 ∧ calibrate (-1) 0 8192 = -1 ∧
    calibrate 100 10 16384 = 90 ∧ calibrate 32767 (-32768) 65535 = 32767 ∧
    calibrate (-32768) 32767 65535 = -32767 := by decide +kernel

/-- R15: a steady window, a short one, and one too short. -/
theorem test_level : (steady 5793).level = some 8192 ∧
    (Window.mk (List.replicate 16 3) 144).level = some 4 ∧
    (Window.mk (List.replicate 15 3) 135).level = none := by decide +kernel

/-- 00 section 4.5: the sine at the quarter points and at 30 degrees. -/
theorem test_sine : sine 0 = 0 ∧ sine 4096 = 4096 ∧ sine 12288 = 8192 ∧ sine 24576 = 0 ∧
    sine 36864 = -8192 ∧ sine 49151 = -1 := by decide +kernel

/-- R23: an error of 400 is corrected by 100 in the angle and by 6 in the increment. -/
theorem test_crossing : (takeCrossing 20 512 2 { Tracker.reset with live := 400 }).live = 300 ∧
    (takeCrossing 20 512 2 { Tracker.reset with live := 400 }).incLive = 378 := by decide +kernel

/-- R133: empty at the floor voltage, full at nominal, quadratic between. -/
theorem test_storeLevel : storeLevel 4915 4915 = 0 ∧ storeLevel 4915 8192 = 1000 ∧
    storeLevel 4915 6553 = 437 ∧ storeLevel 4915 (-3) = 0 ∧ storeLevel 4915 9000 = 1000 := by decide +kernel

/-- R113: the effective limit follows the DC value up to nominal. -/
theorem test_effectiveLimit : effectiveLimit 500 8192 = 4096 ∧ effectiveLimit 500 4096 = 2048 ∧
    effectiveLimit 500 (-1) = 0 ∧ effectiveLimit 500 9000 = 4096 := by decide +kernel

/-- R48: SLOW ranks before FAST, then the order A, B, C. -/
theorem test_trigger : triggerOf ⟨false, true, true⟩ ⟨true, false, false⟩ = some ⟨.slow, .B⟩ ∧
    triggerOf ⟨false, false, false⟩ ⟨false, false, true⟩ = some ⟨.fast, .C⟩ ∧
    triggerOf ⟨false, false, false⟩ ⟨false, false, false⟩ = none := by decide

/-- R63: a curve whose until repeats, and one whose level falls, are refused. -/
theorem test_curves : curvesContent [1, 2, 900, 10, 500, 20, 700] = true ∧
    curvesContent [1, 2, 900, 10, 500, 10, 700] = false ∧
    curvesContent [1, 2, 900, 10, 700, 20, 500] = false ∧
    curvesContent [1, 1, 900, 10, 500, 0] = false ∧ curvesContent [2, 1, 900, 10, 500] = false := by decide +kernel

/-- The images of the small engine are valid. -/
theorem test_images : tablesLawful (engine 5793) = true ∧ storeLawful (engine 5793) = true ∧
    loaderLawful (engine 5793) = true ∧ (engine 5793).configured = true := by decide +kernel

/-- R185: the CRC of no words, and of the check string "123456789" padded by no byte, "12345678". -/
theorem test_crc : crc [] = 65535 ∧ crc [0x3132, 0x3334, 0x3536, 0x3738] = 0xA12B := by decide +kernel

/-! ### States and frames for the witnesses -/

/-- Every driver ready, every bypass open. -/
def allOpen : Word := 0x5555

/-- The next frame of a nominal engine whose bypasses report open. -/
def openFrame : SampleFrame := frameOf 11 5793 8192 allOpen

/-- The next frame with load currents over every limit. -/
def overFrame : SampleFrame :=
  ⟨11, ([5793, 5793, 5793] ++ (List.replicate 4 [5793, 5793, 5793, 20000, 100, 100]).flatten
    ++ [8192] : List Int).map Word.ofInt, allOpen⟩

/-- A section in a state, feedback closed. -/
def section_ (x : SecState) : Section := { Section.reset with state := x }

/-- A section with its bypass open in a state. -/
def opened (x : SecState) : Section := { Section.reset with state := x, feedback := .opened }

/-- The engine whose latest supply values were negative, so that the next frame crosses. -/
def belowZero (s : State) : State :=
  { s with front := { s.front with held := some (valuesOf (-5) 8192) } }

/-- The engine with its supply standing at `v` in a sag. -/
def inSag (v : Nat) : State :=
  inEpisode (withTracker (fun t => { t with ref := .held }) (withDetector (fun d => { d with
    state := .sag, trigger := some ⟨.slow, .A⟩, involved := Phases.all true }) (engine v)))

/-- The engine about to start a sag by its slow counters, its supply standing at `v`. -/
def aboutToSag (v : Nat) : State := withDetector (fun d => { d with slow := ⟨1, 1, 1⟩ }) (engine v)

/-- The engine that a frame with nominal voltages brings to its sag end. -/
def aboutToEnd : State :=
  inEpisode
    (withTracker (fun t => { t with ref := .held }) (withDetector (fun d => { d with
    state := .ending, recovery := 1, endingElapsed := 40, elapsed := 40, trigger := some ⟨.slow, .A⟩ })
    (engine 5793)))

/-- The engine slewing with its held angle at `held`. -/
def slewing (held : Nat) : State :=
  inEpisode (withTracker (fun t => { t with ref := .slewing, held := held, settle := 2 })
    (engine 5793))

/-- A table image as a complete staging buffer. -/
def stagingOf (image : List Word) : Staging := (List.range image.length).zip image

/-- The engine with a load in a state and a staging buffer. -/
def loading (load : Load) (image : List Word) (s : State) : State :=
  { s with loader := { s.loader with load := load, staging := stagingOf image } }

/-- The engine with the image of a table loaded and ready to be committed. -/
def committing (t : TableId) (s : State) : State :=
  loading (.opened t ((images.get t).getD []).length) ((images.get t).getD []) s

/-- The engine with an alert set. -/
def alerted (k : AlertKind) (s : State) : State := s.raise k noPayload

/-- The image of a table, as a list of words. -/
def tableImage (t : TableId) : List Word :=
  (images.get t).getD []

/-- The engine about to end its episode with a Supply Threshold image PENDING. -/
def pendingSupply : State :=
  loading (.pending .supply 7) (tableImage .supply) aboutToEnd

/-- The engine whose next frame takes a good crossing that locks it. -/
def aboutToLock : State :=
  belowZero
    (withTracker (fun t => { t with live := 48768, lock := .locking, good := 1 })
    (engine 5793))

/-- The engine whose next frame takes its second bad crossing. -/
def aboutToUnlock : State :=
  belowZero (withTracker (fun t => { t with bad := 1 }) (engine 5793))

/-- The engine whose next frame is the 256th without a crossing. -/
def longQuiet : State :=
  withTracker (fun t => { t with quiet := 255 }) (engine 5793)

/-- The engine whose next frame reaches the return limit unsettled. -/
def forcedDue : State :=
  withTracker (fun t => { t with settle := 0, returnTimer := 1279 })
    (sections (opened .returningSlewing) (slewing 1000))

/-- The engine whose next frame settles the slew, every section RETURNING. -/
def settling : State :=
  sections (opened .returningSlewing) (slewing 1000)

/-- The engine about to start a sag by its fast counters. -/
def aboutToSagFast : State :=
  withDetector (fun d => { d with fast := ⟨1, 1, 1⟩ }) (engine 5793)

/-- The engine about to end its sag, every section INJECTING. -/
def injectingAtEnd : State :=
  sections (opened .injecting) aboutToEnd

/-- The engine in a sag with end_qualify 1. -/
def endsAtOnce : State :=
  { inSag 5793 with
    loader := { (inSag 5793).loader with tables :=
      { images with supply := some [1, 100, 2, 900, 950, 2, 1] } } }

/-- What the allocator derives from the Store Table. -/
def levels : StoreLevels :=
  (images.store.map deriveLevels).getD ⟨0, Four.all 0, Four.all 0, Four.all 0⟩

/-- A sag whose INJECTING sections are about to report open. -/
def openSucceeds : State :=
  sections { section_ .injecting with confirm := .opening, filterCount := 1 } (inSag 4000)

/-- A return whose SLEWING sections are about to report open. -/
def openSucceedsSlewing : State :=
  sections { section_ .returningSlewing with confirm := .opening, filterCount := 1 }
    (withTracker (fun t => { t with settle := 0 }) (slewing 5000))

/-- A sag whose INJECTING sections are about to time out. -/
def openTimesOut : State :=
  sections { section_ .injecting with confirm := .opening, confirmTimer := 3 } (inSag 4000)

/-- An engine whose RELEASING sections are about to time out. -/
def closeTimesOut : State :=
  sections { opened .releasing with confirm := .closing, confirmTimer := 3 }
    (engine 5793)

/-- A sag whose INJECTING sections have been over once. -/
def overOnce : State :=
  sections { opened .injecting with overCount := 1 } (inSag 5793)

/-- A boundary that finds an ARM pending. -/
def armDue : State :=
  withTracker (fun t => { t with live := 48800 })
    (sections { section_ .bypassed with pendingReq := .arm }
    (engine 5793))

/-- A boundary that finds eligible sections. -/
def rearmDue : State :=
  withTracker (fun t => { t with live := 48800 })
    (sections { section_ .bypassed with eligible := true }
    (engine 5793))

/-- A boundary that finds a DISARM pending. -/
def disarmDue : State :=
  withTracker (fun t => { t with live := 48800 })
    (sections { section_ .armed with pendingReq := .disarm }
    (engine 5793))

/-- SLEWING sections about to meet a sag start. -/
def slewingAtSag : State :=
  withTracker (fun t => { t with ref := .slewing, held := 5000 })
    (sections (opened .returningSlewing) (aboutToSag 4000))

/-- A sag with every section INJECTING. -/
def injectingIn (v : Nat) : State :=
  sections (opened .injecting) (inSag v)

/-- A sag with every section WATCHING. -/
def watchingIn (v : Nat) : State :=
  sections (section_ .watching) (inSag v)

/-- ARMED sections about to meet a sag start. -/
def armedAt (v : Nat) : State :=
  sections (section_ .armed) (aboutToSag v)

/-- An engine whose sections' closes are about to succeed in a state. -/
def closingIn (x : SecState) : State :=
  sections { section_ x with confirm := .closing } (engine 5793)

/-- The next frame of an engine in a sag whose bypasses report open. -/
def lowOpen : SampleFrame :=
  frameOf 11 4000 8192 allOpen

/-- The next frame of an engine in a deep sag. -/
def deepFrame : SampleFrame :=
  frameOf 11 2000 8192 allReady

/-- A load with its last word missing. -/
def holed : State :=
  loading (.opened .supply 7) [1, 100, 2, 900, 950, 2] (engine 5793)

/-- A load with a word out of its range. -/
def badContent : State :=
  loading (.opened .supply 7) [2, 100, 2, 900, 950, 2, 2] (engine 5793)

/-- A load that names a curve that is not there. -/
def badCross : State :=
  loading (.opened .sections 48) ((List.range 4).flatMap fun k => (sectionEntry k).set 6 1)
    (engine 5793)

/-- The engine HALTED. -/
def haltedEngine : State :=
  { engine 5793 with controller := { (engine 5793).controller with run := .halted } }

/-- The engine with one CLOSED record. -/
def closedRecord : State :=
  { engine 5793 with records := ⟨[{ sagRecord with isOpen := false }], 8⟩ }

/-- The engine in ENDING with recovery count `n`, its supply standing at `v`. -/
def ending (n v : Nat) : State :=
  withDetector (fun d => { d with state := .ending, recovery := n, involved := Phases.all false })
    (inSag v)

/-- The engine in ENDING with slow_qualify 1, its supply standing at 4000. -/
def endingQualifyOne : State :=
  { ending 1 4000 with
    loader := { (ending 1 4000).loader with tables :=
      { images with supply := some [1, 100, 2, 900, 950, 1, 2] } } }

/-- A sag about to start in an episode whose record is the 32nd. -/
def fullList : State :=
  { armedAt 2000 with
    controller := { (armedAt 2000).controller with episode := true }
    records := ⟨List.replicate 31 { sagRecord with isOpen := false } ++ [sagRecord], 8⟩ }

/-- A sag about to start in the frame of a forced return. -/
def forcedAtSag : State :=
  withTracker (fun t => { t with returnTimer := 1279 }) slewingAtSag

/-- The engine with each section one report short of accepting a new bypass position. -/
def aboutToAccept (x : Section) : State := sections { x with filterCount := 1 } (engine 5793)

/-- An ARM pending at a boundary of an UNLOCKED tracker. -/
def armFails : State := withTracker (fun t => { t with lock := .unlocked }) armDue

/-- Two curves, one of them with eight steps and every level at its bound. -/
def twoCurves : List Curve :=
  [⟨1000, (List.range 8).map fun i => (65528 + i, 1000)⟩, ⟨0, [(1, 0)]⟩]

/-! ### Witnesses: what each statement assumes is met somewhere -/

/-- An empty queue. -/
theorem witness_StepRunsFrontCommand :
    State.reset.pending = [] := by decide +kernel

/-- An asserted line and a command that is not of the line. -/
theorem witness_PowerOnReset :
    ({ State.reset with resetLine := true } : State).resetLine = true ∧ isResetCommand .run = false :=
  by decide +kernel

/-- A frame that fails each check: kind, length, CRC. -/
theorem witness_FailingFramesAreDiscarded :
    passesChecks [3, 0] = false ∧ passesChecks [1, 0, 0] = false ∧
    passesChecks (2 :: List.replicate 21 0) = false := by decide +kernel

/-- A frame and a request that can be carried. -/
theorem witness_FrameWordsRoundTrip :
    nextFrame.wf = true ∧ (Request.plain 4 1 2 3).data.length = 16 ∧
    (List.replicate 16 (7 : Word)).length = 16 := by decide +kernel

/-- Each class at its bounds, a duplicate, and an accepted frame of each class. -/
theorem witness_FrameClassAndLink :
    State.reset.link.meas ≠ .running ∧ (engine 5793).link.meas = .running ∧
    nextFrame.seq - 1 = (engine 5793).link.lastSeq ∧ classify (engine 5793).link 10 = none ∧
    accepted normal nextFrame (engine 5793) = true ∧
    accepted ⟨.shortGap, 1⟩ (frameOf 12 0 0 0) (engine 5793) = true ∧
    accepted ⟨.shortGap, 3⟩ (frameOf 14 0 0 0) (engine 5793) = true ∧
    accepted ⟨.brk, 0⟩ (frameOf 15 0 0 0) (engine 5793) = true ∧
    accepted ⟨.brk, 0⟩ (frameOf 9 0 0 0) (engine 5793) = true ∧
    accepted ⟨.brk, 0⟩ (frameOf 10 0 0 0) State.reset = true := by decide +kernel

/-- A break and a frame that is none, with a held set. -/
theorem witness_BreakAndWindowRefill :
    accepted ⟨.brk, 0⟩ (frameOf 15 0 0 0) (engine 5793) = true ∧
    accepted normal nextFrame (engine 5793) = true ∧ normal.kind ≠ .brk ∧
    (engine 5793).front.held.isSome = true := by decide +kernel

/-- A frame that finds no part, the last part and the first of two parts waiting, and a CLOSED record
that is not the oldest. -/
theorem witness_SampleFrameLeaves :
    accepted normal nextFrame (engine 5793) = true ∧ noPending (engine 5793) = true ∧
    (engine 5793).management.queue = [] ∧ (busy (engine 5793)).management.queue ≠ [] ∧
    (busy (engine 5793)).management.queue.tail = [] ∧
    (after .fetchRecord closedRecord).management.queue.tail ≠ [] ∧
    accepted normal nextFrame (after .fetchRecord closedRecord) = true ∧
    { sagRecord with isOpen := false } ∈ fullList.records.list.tail := by decide +kernel

/-- A held set, lawful windows, and frames of both kinds that take gap frames. -/
theorem witness_CalibratedSetAndWindows :
    accepted normal nextFrame (engine 5793) = true ∧
    accepted ⟨.shortGap, 3⟩ (frameOf 14 1 1 0) (engine 5793) = true ∧
    (engine 5793).front.held = some (valuesOf 5793 8192) ∧ windowsLawful (engine 5793) = true :=
  by decide +kernel

/-- A window at each bound of the rule. -/
theorem witness_LevelIsLargestRoot :
    (Window.mk (List.replicate 15 1) 15).values.length < 16 ∧
    16 ≤ (Window.mk (List.replicate 16 1) 16).values.length ∧ (steady 1).values.length ≤ 64 :=
  by decide +kernel

/-- Not configured; no crossing and a crossing; HELD outside a sag end; SLEWING within the rate and
beyond it. -/
theorem witness_TrackerAngles :
    accepted ⟨.brk, 0⟩ nextFrame State.reset = true ∧ State.reset.configured = false ∧
    noPending State.reset = true ∧ (engine 5793).configured = true ∧ noPending (engine 5793) = true ∧
    crossingIn normal nextFrame (engine 5793) = false ∧
    crossingIn normal nextFrame (belowZero (engine 5793)) = true ∧ (inSag 4000).tracker.ref = .held ∧
    (after (.sampleFrame lowFrame) (inSag 4000)).detector.sagEnd = false ∧
    (after (.sampleFrame nextFrame) (slewing 1000)).detector.sagStart = false ∧
    (deltaOf normal nextFrame (slewing 936)).natAbs = (slewing 936).slewRate ∧
    (slewing 935).slewRate < (deltaOf normal nextFrame (slewing 935)).natAbs := by decide +kernel

/-- A boundary at its bound and one unit short of it, TRACKING, HELD and SLEWING. -/
theorem witness_CycleBoundary :
    ([48767, 48768].map fun a => (judged normal nextFrame
      (withTracker (fun t => { t with live := a }) (engine 5793))).tracker.marks.boundary) =
      [false, true] ∧
    ([48767, 48768].map fun a => (judged normal lowFrame
      (withTracker (fun t => { t with held := a }) (inSag 4000))).tracker.marks.boundary) =
      [false, true] ∧
    ([48703, 48704].map fun a => (judged normal nextFrame (slewing a)).tracker.marks.boundary) =
      [false, true] := by decide +kernel

/-- Each of the three changes. -/
theorem witness_LockChanges :
    crossingIn normal nextFrame aboutToLock = true ∧
    (errorIn normal aboutToLock).natAbs ≤ aboutToLock.lockWindow ∧
    aboutToLock.lockCount ≤ aboutToLock.tracker.good + 1 ∧
    accepted normal nextFrame aboutToLock = true ∧ aboutToLock.configured = true ∧
    noPending aboutToLock = true ∧ crossingIn normal nextFrame aboutToUnlock = true ∧
    aboutToUnlock.lockWindow < (errorIn normal aboutToUnlock).natAbs ∧
    aboutToUnlock.tracker.lock ≠ .unlocked ∧ crossingIn normal nextFrame longQuiet = false ∧
    longQuiet.tracker.quiet < 256 ∧ 256 ≤ longQuiet.tracker.quiet + normal.gap + 1 := by decide +kernel

/-- A settled return and a forced one, with a slewing section and an OPEN record. -/
theorem witness_ReferenceReturns :
    accepted normal openFrame settling = true ∧ settling.configured = true ∧
    (judged normal openFrame settling).detector.sagStart = false ∧
    settlesIn normal openFrame settling = true ∧ undisturbed normal openFrame settling 0 = true ∧
    settlesIn normal openFrame forcedDue = false ∧
    forcedDue.returnLimit * 64 ≤ min 16320 (forcedDue.tracker.returnTimer + normal.gap + 1) ∧
    openRecord forcedDue.records.list = some sagRecord ∧
    undisturbed normal openFrame forcedDue 3 = true ∧
    (judged normal openFrame forcedDue).detector.sagStart = false := by decide +kernel

/-- A sag start by the slow counters and one by the fast counters. -/
theorem witness_SagStarts :
    accepted normal lowFrame (aboutToSag 4000) = true ∧ (aboutToSag 4000).configured = true ∧
    levelsOf normal lowFrame (aboutToSag 4000) = some ⟨5656, 5656, 5656⟩ ∧
    triggerOf (slowQualified ⟨5656, 5656, 5656⟩ (aboutToSag 4000)) (fastQualified normal lowFrame
      (aboutToSag 4000)) = some ⟨.slow, .A⟩ ∧
    levelsOf normal nextFrame aboutToSagFast = some ⟨8192, 8192, 8192⟩ ∧
    triggerOf (slowQualified ⟨8192, 8192, 8192⟩ aboutToSagFast)
      (fastQualified normal nextFrame aboutToSagFast) = some ⟨.fast, .A⟩ ∧
    aboutToSagFast.tracker.ref = .tracking ∧ aboutToSagFast.detector.state = .clear := by decide +kernel

/-- A sag end from ENDING, with an INJECTING section of each strategy. -/
theorem witness_SagEnds :
    (accepted normal openFrame injectingAtEnd = true ∧ injectingAtEnd.configured = true ∧
      levelsOf normal openFrame injectingAtEnd = some ⟨8192, 8192, 8192⟩ ∧
      injectingAtEnd.detector.state = .ending ∧
      injectingAtEnd.endQualify ≤ injectingAtEnd.detector.recovery + 1 ∧
      undisturbed normal openFrame injectingAtEnd 0 = true ∧ injectingAtEnd.strategy 0 = .restore ∧
      undisturbed normal openFrame injectingAtEnd 1 = true ∧ injectingAtEnd.strategy 1 = .inphase) ∧
    ∀ p : Phase, injectingAtEnd.slowEnd * 8192 ≤ (⟨8192, 8192, 8192⟩ : Phases Nat).get p * 1000 := by
  refine ⟨by decide +kernel, fun p => ?_⟩
  cases p <;> decide +kernel

/-- A sag end from SAG when end_qualify is 1. -/
theorem witness_SagEndsAtOnce :
    endsAtOnce.endQualify ≤ 1 ∧ endsAtOnce.detector.state = .sag ∧
    accepted normal nextFrame endsAtOnce = true ∧
    levelsOf normal nextFrame endsAtOnce = some ⟨8192, 8192, 8192⟩ := by decide +kernel

/-- A sag end that finds WATCHING sections. -/
theorem witness_SagEndsWatching :
    accepted normal nextFrame (sections (section_ .watching) aboutToEnd) = true ∧
    noPending (sections (section_ .watching) aboutToEnd) = true ∧
    (viewOf normal nextFrame (sections (section_ .watching) aboutToEnd) 0).status =
      ⟨.closed, false, true⟩ ∧
    (newsOf normal nextFrame (sections (section_ .watching) aboutToEnd) 0).turnedOpen = false := by
  decide +kernel

/-- Not configured; in a sag with a crossing and without; outside one; a good crossing under the
suspension; a break, whose levels are not valid. -/
theorem witness_DetectorTimesAndHolds :
    accepted ⟨.brk, 0⟩ nextFrame State.reset = true ∧ State.reset.configured = false ∧
    accepted normal nextFrame (belowZero (inSag 5793)) = true ∧
    noPending (belowZero (inSag 5793)) = true ∧ (belowZero (inSag 5793)).configured = true ∧
    crossingIn normal nextFrame (belowZero (inSag 5793)) = true ∧
    crossingIn normal lowFrame (inSag 4000) = false ∧ (inSag 4000).detector.state = .sag ∧
    aboutToEnd.detector.state = .ending ∧
    (after (.sampleFrame nextFrame) (engine 5793)).detector.sagStart = false ∧
    (errorIn normal aboutToLock).natAbs ≤ aboutToLock.lockWindow ∧
    levelsOf ⟨.brk, 0⟩ (frameOf 15 0 0 0) (inSag 4000) = none ∧
    accepted ⟨.brk, 0⟩ (frameOf 15 0 0 0) (inSag 4000) = true := by decide +kernel

/-- Valid levels in each state of the detector, recovered and not, on both sides of end_qualify. -/
theorem witness_DetectorJudges :
    levelsOf normal lowFrame (engine 4000) = some ⟨5656, 5656, 5656⟩ ∧
    (engine 4000).detector.state = .clear ∧ noPending (engine 4000) = true ∧
    (aboutToSag 4000).slowQualify ≤ (aboutToSag 4000).detector.slow.a + 1 ∧
    levelsOf normal nextFrame (inSag 5793) = some ⟨8192, 8192, 8192⟩ ∧
    (inSag 5793).slowEnd * 8192 ≤ 8192 * 1000 ∧ 1 < (inSag 5793).endQualify ∧
    ¬(inSag 4000).slowEnd * 8192 ≤ 5656 * 1000 ∧ (ending 0 5793).detector.state = .ending ∧
    (ending 0 5793).detector.recovery + 1 < (ending 0 5793).endQualify ∧
    levelsOf normal nextFrame (ending 0 5793) = some ⟨8192, 8192, 8192⟩ ∧
    levelsOf normal lowFrame (ending 1 4000) = some ⟨5656, 5656, 5656⟩ := by decide +kernel

/-- A curve for each section, in a sag with a phase below its level and outside one. -/
theorem witness_DemandOfFrame :
    accepted normal nextFrame (engine 5793) = true ∧ (engine 5793).configured = true ∧
    (engine 5793).curves[(engine 5793).curveNumber 0]? = some ⟨900, [(10, 500)]⟩ ∧
    ((after (.sampleFrame lowFrame) (inSag 2000)).demand.get 0).needed = true ∧
    ((after (.sampleFrame nextFrame) (engine 5793)).demand.get 0).needed = false := by decide +kernel

/-- Levels of an applied table, and DC values at and above the floor voltage. -/
theorem witness_StoreLevelAndBands :
    (engine 5793).store.levels = some levels ∧
    (∀ i : Fin 4, levels.release.get i ≤ levels.degrade.get i) ∧
    (after (.sampleFrame (frameOf 11 0 4915 0)) (engine 5793)).dcValue = levels.vmin ∧
    (after (.sampleFrame (frameOf 11 0 4916 0)) (engine 5793)).dcValue = levels.vmin + 1 :=
  by decide +kernel

/-- A store level below release_0, between, and at ready_0. -/
theorem witness_ReadyMarksAndStoreLow :
    levels.release.get 0 ≤ levels.ready.get 0 ∧
    (after (.sampleFrame (frameOf 11 0 4915 0)) (engine 5793)).store.level < levels.release.get 0 ∧
    (after (.sampleFrame (frameOf 11 0 5750 0)) (engine 5793)).store.level = 207 ∧
    (after (.sampleFrame (frameOf 11 0 8192 0)) (engine 5793)).store.level = 1000 ∧
    (engine 5793).store.lowArmed = true := by decide +kernel

/-- Each formula: RESTORE, INPHASE, FLOOR, the slewing return, and none. -/
theorem witness_InjectionReferences :
    accepted normal lowOpen (injectingIn 4000) = true ∧ (injectingIn 4000).configured = true ∧
    ((after (.sampleFrame lowOpen) (injectingIn 4000)).injection.get 0).method = Phases.all .restore ∧
    ((after (.sampleFrame lowOpen) (injectingIn 4000)).injection.get 1).method = Phases.all .inphase ∧
    ((after (.sampleFrame (frameOf 11 2000 8192 allOpen))
      (sections { opened .injecting with service := .degraded }
      (inSag 2000))).injection.get 0).method = Phases.all .floor ∧
    ((after (.sampleFrame openFrame) (sections (opened .returningSlewing)
      (slewing 5000))).injection.get 1).method = Phases.all .restore ∧
    ((after (.sampleFrame nextFrame) (engine 5793)).sec 0).state = .bypassed := by decide +kernel

/-- Each case of the choice: an urgent alert, an answer part that leaves another alert waiting, another
alert, and nothing to send; an expiry with active sections and one without. -/
theorem witness_OutSlotChoice :
    (∀ a ∈ alertKinds, (atSlot normal nextFrame (alerted .linkSilent (busy (engine 5793)))).offers a =
      (a == .linkSilent)) ∧
    (∀ a ∈ alertKinds, (atSlot normal nextFrame (alerted .commitDone (busy (engine 5793)))).offers a =
      (a == .commitDone)) ∧
    (∀ a ∈ alertKinds, (atSlot normal nextFrame (alerted .commitDone (engine 5793))).offers a =
      (a == .commitDone)) ∧
    (∀ a ∈ alertKinds, (atSlot normal nextFrame (engine 5793)).offers a = false) ∧
    (busy (engine 5793)).management.queue = [⟨1, .ok, 1, 1, .words []⟩] ∧
    (engine 5793).management.queue = [] ∧ anyActive (injectingIn 4000).controller.sections = true ∧
    (injectingIn 4000).link.timer.isSome = true ∧ (injectingIn 4000).controller.run = .running ∧
    anyActive (engine 5793).controller.sections = false ∧ (engine 5793).controller.run = .running :=
  by decide +kernel

/-- A part of each body, a record with four entries and one with none. -/
theorem witness_FrameLayouts :
    (after .fetchRecord closedRecord).management.snapshot = some { sagRecord with isOpen := false } ∧
    (after .fetchRecord closedRecord).management.queue.map AnswerPart.body =
      [.recordHeader, .recordEntries] ∧
    (after .readIdent (engine 5793)).management.queue.map AnswerPart.body = [.words identWords] ∧
    sagRecord.entries[3]? = some (Entry.new 3) ∧ sagRecord.entries.length ≤ 4 ∧
    ({ sagRecord with entries := [] } : Record).entries.length ≤ (0 : Fin 4).val := by decide +kernel

/-- A report equal to the feedback, one that is counted, and one that is accepted, in filters of length
2 and 3. -/
theorem witness_FeedbackFilter :
    ((after (.feedbackAccepted nextFrame) (engine 5793)).sec 0).filterCount = 0 ∧
    ((after (.feedbackAccepted openFrame) (engine 5793)).sec 0).filterCount = 1 ∧
    ((after (.feedbackAccepted openFrame) (sections { section_ .bypassed with filterCount := 1 }
      (engine 5793))).sec 0).feedback = .opened ∧
    State.reset.valid .sections = false := by decide +kernel

/-- A bypass that opens, and one that closes, without command, under each state the rule names. -/
theorem witness_UncommandedMoves :
    ([SecState.out, .bypassed, .armed, .watching].map fun x =>
      ((after (.feedbackAccepted openFrame) (aboutToAccept (section_ x))).sec 0).feedback) =
      List.replicate 4 .opened ∧
    ([SecState.injecting, .returningSlewing].map fun x =>
      ((after (.feedbackAccepted nextFrame) (aboutToAccept (opened x))).sec 0).feedback) =
      List.replicate 2 .closed ∧
    (opened .injecting).confirm ≠ .opening ∧
    accepted normal openFrame (aboutToAccept (section_ .armed)) = true ∧
    noPending (aboutToAccept (section_ .armed)) = true ∧
    (viewOf normal openFrame (aboutToAccept (section_ .armed)) 0).status = ⟨.opened, false, true⟩ ∧
    (viewOf normal nextFrame (aboutToAccept (opened .injecting)) 0).status = ⟨.closed, false, true⟩ :=
  by decide +kernel

/-- An open that succeeds while INJECTING and while SLEWING, and one that times out. -/
theorem witness_OpenConfirm :
    accepted normal lowOpen openSucceeds = true ∧ noPending openSucceeds = true ∧
    (viewOf normal lowOpen openSucceeds 0).status = ⟨.opened, false, true⟩ ∧
    (updatedOf normal lowOpen openSucceeds 0).feedback = .opened ∧
    (updatedOf normal lowOpen openSucceeds 0).filterCount = 0 ∧
    undisturbed normal lowOpen openSucceeds 0 = true ∧
    (viewOf normal lowOpen openSucceeds 0).sagEnd = false ∧
    (viewOf normal lowOpen openSucceeds 0).order = .serve ∧
    undisturbed normal openFrame openSucceedsSlewing 0 = true ∧
    (viewOf normal openFrame openSucceedsSlewing 0).sagStart = false ∧
    (viewOf normal openFrame openSucceedsSlewing 0).becameTracking = false ∧
    (updatedOf normal openFrame openSucceedsSlewing 0).feedback = .opened ∧
    accepted normal lowFrame openTimesOut = true ∧
    (updatedOf normal lowFrame openTimesOut 0).feedback = .closed ∧
    openTimesOut.openTimeout 0 = min 64 ((openTimesOut.sec 0).confirmTimer + normal.gap + 1) :=
  by decide +kernel

/-- A close that succeeds in each of its three states, and one that times out. -/
theorem witness_CloseConfirm :
    accepted normal nextFrame (closingIn .returningClosing) = true ∧
    noPending (closingIn .returningClosing) = true ∧
    (viewOf normal nextFrame (closingIn .returningClosing) 0).status = ⟨.closed, false, true⟩ ∧
    (updatedOf normal nextFrame (closingIn .returningClosing) 0).feedback = .closed ∧
    (updatedOf normal nextFrame (closingIn .returningClosing) 0).filterCount = 0 ∧
    (updatedOf normal nextFrame (closingIn .returningClosing) 0).overCount < 2 ∧
    (updatedOf normal nextFrame (closingIn .releasing) 0).feedback = .closed ∧
    (updatedOf normal nextFrame (closingIn .releasing) 0).filterCount = 0 ∧
    (updatedOf normal nextFrame (closingIn .releasing) 0).overCount < 2 ∧
    (updatedOf normal nextFrame (closingIn .fault) 0).feedback = .closed ∧
    (updatedOf normal nextFrame (closingIn .fault) 0).filterCount = 0 ∧
    (updatedOf normal nextFrame (closingIn .fault) 0).overCount < 2 ∧
    accepted normal openFrame closeTimesOut = true ∧
    (updatedOf normal openFrame closeTimesOut 0).feedback = .opened ∧
    closeTimesOut.closeTimeout 0 = min 64 ((closeTimesOut.sec 0).confirmTimer + normal.gap + 1) :=
  by decide +kernel

/-- A second over frame of an INJECTING section that nothing else moves. -/
theorem witness_OvercurrentReleases :
    (accepted normal overFrame overOnce = true ∧ (overOnce.sec 0).state.carrying = true ∧
      1 ≤ (overOnce.sec 0).overCount ∧
      (viewOf normal overFrame overOnce 0).status = ⟨.opened, false, true⟩ ∧
      (newsOf normal overFrame overOnce 0).openTimesOut = false ∧
      (newsOf normal overFrame overOnce 0).closeTimesOut = false ∧
      (newsOf normal overFrame overOnce 0).turnedClosed = false) ∧
    ∃ p : Phase, overOnce.currentLimit 0 * 8192 <
      ((measured normal overFrame overOnce).current 0 p).natAbs * 1000 :=
  ⟨by decide +kernel, .A, by decide +kernel⟩

/-- A pending ARM, an eligible section and a pending DISARM at a boundary. -/
theorem witness_ArmingAtBoundary :
    (judged normal nextFrame armDue).tracker.marks.boundary = true ∧
    (judged normal nextFrame armDue).detector.sagStart = false ∧
    (judged normal nextFrame rearmDue).tracker.marks.boundary = true ∧
    (judged normal nextFrame rearmDue).detector.sagStart = false ∧
    (judged normal nextFrame disarmDue).tracker.marks.boundary = true ∧
    (judged normal nextFrame disarmDue).detector.sagStart = false ∧
    (judged normal nextFrame armDue).tracker.lock = .locked ∧
    (judged normal nextFrame armDue).store.ready.get (armDue.classOf 0) = true ∧
    (updatedOf normal nextFrame armDue 0).feedback = .closed ∧
    (viewOf normal nextFrame armDue 0).status = ⟨.closed, false, true⟩ ∧ rearmDue.autoRearm 0 = true ∧
    (rearmDue.sec 0).hold = false ∧ accepted normal nextFrame rearmDue = true ∧
    rearmDue.controller.run = .running ∧ rearmDue.controller.episode = false ∧
    (newsOf normal nextFrame disarmDue 0).turnedOpen = false ∧ noPending disarmDue = true :=
  by decide +kernel

/-- A pending ARM at a boundary where a condition fails. -/
theorem witness_ArmingFails :
    accepted normal nextFrame armFails = true ∧ noPending armFails = true ∧
    armFails.configured = true ∧ (armFails.sec 0).state = .bypassed ∧
    (armFails.sec 0).pendingReq = .arm ∧ (viewOf normal nextFrame armFails 0).status.bridgeFault = false ∧
    (judged normal nextFrame armFails).tracker.marks.boundary = true ∧
    (judged normal nextFrame armFails).detector.sagStart = false ∧
    (judged normal nextFrame armFails).tracker.lock ≠ .locked := by decide +kernel

/-- A sag-start frame with each order and demand, for ARMED, BYPASSED and SLEWING sections. -/
theorem witness_SectionsAtSagStart :
    accepted normal lowFrame (armedAt 4000) = true ∧ (armedAt 4000).configured = true ∧
    (judged normal lowFrame (armedAt 4000)).detector.sagStart = true ∧
    (judged normal lowFrame (armedAt 4000)).orderOf 0 = .serve ∧
    ((judged normal lowFrame (armedAt 4000)).demand.get 0).needed = false ∧
    ((judged normal deepFrame (armedAt 2000)).demand.get 0).needed = true ∧
    (judged normal (frameOf 11 4000 4000 allReady) (armedAt 4000)).orderOf 0 = .release ∧
    (judged normal (frameOf 11 4000 4000 allReady) (armedAt 4000)).detector.sagStart = true ∧
    (judged normal lowFrame (sections ({ section_ .armed with pendingReq := .disarm })
      (aboutToSag 4000))).detector.sagStart = true ∧
    (judged normal lowFrame (sections ({ section_ .bypassed with pendingReq := .arm })
      (aboutToSag 4000))).detector.sagStart = true ∧
    (newsOf normal lowFrame (armedAt 4000) 0).turnedOpen = false ∧
    (judged normal lowOpen slewingAtSag).detector.sagStart = true ∧
    undisturbed normal lowOpen slewingAtSag 0 = true := by decide +kernel

/-- WATCHING and INJECTING sections under each order, with and without demand. -/
theorem witness_SectionsThroughSag :
    accepted normal deepFrame (watchingIn 2000) = true ∧
    (judged normal deepFrame (watchingIn 2000)).detector.inSag = true ∧
    (judged normal deepFrame (watchingIn 2000)).detector.sagStart = false ∧
    undisturbed normal deepFrame (watchingIn 2000) 0 = true ∧
    (judged normal deepFrame (watchingIn 2000)).orderOf 0 = .serve ∧
    ((judged normal deepFrame (watchingIn 2000)).demand.get 0).needed = true ∧
    (newsOf normal deepFrame (watchingIn 2000) 0).turnedOpen = false ∧
    ((judged normal lowFrame (inSag 4000)).demand.get 0).needed = false ∧
    undisturbed normal (frameOf 11 2000 8192 allOpen) (injectingIn 2000) 0 = true ∧
    (judged normal (frameOf 11 2000 6553 allOpen) (injectingIn 2000)).orderOf 0 = .degrade ∧
    (judged normal (frameOf 11 2000 4000 allOpen) (injectingIn 2000)).orderOf 0 = .release :=
  by decide +kernel

/-- A bridge fault, and drivers that are not ready under an ARMED and an INJECTING section. -/
theorem witness_DriverStatusBits :
    (frameOf 11 5793 8192 0x6666).status.getLsbD 1 = true ∧
    (frameOf 11 5793 8192 0).status.getLsbD 13 = false ∧
    (frameOf 11 5793 8192 0).status.getLsbD 14 = false ∧
    accepted normal (frameOf 11 5793 8192 0x6666) (sections (section_ .armed) (engine 5793)) = true ∧
    accepted normal (frameOf 11 4000 8192 0) (injectingIn 4000) = true ∧
    ((injectingIn 4000).sec 3).state.carrying = true := by decide +kernel

/-- Sag starts with no record, with an OPEN one in a full list, and with a forced return. -/
theorem witness_SagRecordOpens :
    accepted normal lowFrame (armedAt 4000) = true ∧ (armedAt 4000).configured = true ∧
    (judged normal lowFrame (armedAt 4000)).detector.sagStart = true ∧
    openRecord (armedAt 4000).records.list = none ∧ (armedAt 4000).inService 0 = true ∧
    accepted normal deepFrame fullList = true ∧ fullList.configured = true ∧
    (judged normal deepFrame fullList).detector.sagStart = true ∧
    openRecord fullList.records.list = some sagRecord ∧ 32 ≤ fullList.records.list.length ∧
    accepted normal lowOpen forcedAtSag = true ∧
    (judged normal lowOpen forcedAtSag).detector.sagStart = true ∧
    forcedIn normal lowOpen forcedAtSag = true := by decide +kernel

/-- A record in a sag that goes on, and one whose episode ends in a sag-end frame. -/
theorem witness_OpenRecordUpdate :
    accepted normal lowFrame (inSag 4000) = true ∧
    openRecord (inSag 4000).records.list = some sagRecord ∧
    (judged normal lowFrame (inSag 4000)).detector.sagStart = false ∧
    (inSag 4000).controller.episode = true ∧
    (after (.sampleFrame lowFrame) (inSag 4000)).controller.episode = true ∧
    openRecord aboutToEnd.records.list = some sagRecord ∧ aboutToEnd.controller.episode = true ∧
    (after (.sampleFrame nextFrame) aboutToEnd).detector.sagEnd = true ∧
    (after (.sampleFrame nextFrame) aboutToEnd).controller.episode = false := by decide +kernel

/-- A frame without an OPEN record, and a forced return of one that is OPEN. -/
theorem witness_OpenRecordCases :
    openRecord closedRecord.records.list = none ∧ accepted normal nextFrame closedRecord = true ∧
    (judged normal nextFrame closedRecord).detector.sagStart = false ∧
    accepted normal openFrame forcedDue = true ∧ forcedIn normal openFrame forcedDue = true ∧
    (judged normal openFrame forcedDue).detector.sagStart = false ∧ noPending forcedDue = true :=
  by decide +kernel

/-- A PENDING image in a frame that ends the episode, and in a silence expiry. -/
theorem witness_DeferredApplication :
    pendingSupply.loader.load = .pending .supply 7 ∧ accepted normal nextFrame pendingSupply = true ∧
    endsIn normal nextFrame pendingSupply = true ∧ pendingSupply.resetLine = false ∧
    pendingSupply.link.timer.isSome = true ∧ pendingSupply.controller.run = .running ∧
    pendingSupply.controller.episode = true := by decide +kernel

/-- An expiry in RUNNING with active sections in an episode, one in HALTED, and an idle timer. -/
theorem witness_SilenceExpiry :
    (injectingIn 4000).resetLine = false ∧ (injectingIn 4000).link.timer.isSome = true ∧
    (injectingIn 4000).controller.run = .running ∧ noPending (injectingIn 4000) = true ∧
    anyActive (injectingIn 4000).controller.sections = true ∧
    anyActive (engine 5793).controller.sections = false ∧
    openRecord (injectingIn 4000).records.list = some sagRecord ∧
    ((injectingIn 4000).sec 0).state.active = true ∧ haltedEngine.link.timer.isSome = true ∧
    State.reset.link.timer = none := by decide +kernel

/-- A request in an occupied slot, codes on both sides of the table, marks on both sides of the bound. -/
theorem witness_OverrunUnknownAndAlertRequests :
    isRequest .readStatus = true ∧ (busy (engine 5793)).resetLine = false ∧
    (busy (engine 5793)).management.slot.isSome = true ∧ slotOpen (engine 5793) = true ∧
    (0 : Word).toNat = 0 ∧ 21 < (22 : Word).toNat ∧ 2048 ≤ (2048 : Word).toNat ∧
    (2047 : Word).toNat < 2048 := by decide +kernel

/-- READ_IDENT, READ_STATUS, READ_SECTION and READ_TABLE: an empty slot, sections and tables in and out
of range, a table that is valid and one that is not. -/
theorem witness_ReadRequests :
    slotOpen State.reset = true ∧ slotOpen (engine 5793) = true ∧
    (1 : Word).toNat = (0 : Fin 4).val + 1 ∧ (4 : Word).toNat = (3 : Fin 4).val + 1 ∧
    (0 : Word).toNat < 1 ∧ 4 < (5 : Word).toNat ∧ 5 < (6 : Word).toNat ∧
    (5 : Word).toNat = TableId.reference.number ∧ State.reset.loader.tables.get .reference = none ∧
    (engine 5793).loader.tables.get .reference = some [20, 512, 2, 500, 2, 64, 20, 500] :=
  by decide +kernel

/-- FETCH_RECORD and DISCARD_RECORD: no record, an OPEN one, a CLOSED one, another number. -/
theorem witness_RecordRequests :
    State.reset.records.list = [] ∧ (inEpisode (engine 5793)).records.list = sagRecord :: [] ∧
    slotOpen (inEpisode (engine 5793)) = true ∧ sagRecord.seq = 7 ∧ sagRecord.seq ≠ 6 ∧
    sagRecord.isOpen = true ∧ closedRecord.records.list = { sagRecord with isOpen := false } :: [] :=
  by decide +kernel

/-- RUN accepted and refused, HALT and RESTART with sections in every group of states and with an OPEN
record. -/
theorem witness_RunHaltRestart :
    haltedEngine.configured = true ∧ State.reset.configured = false ∧
    (engine 5793).controller.run = .running ∧ slotOpen (injectingIn 4000) = true ∧
    ((injectingIn 4000).sec 0).state.carrying = true ∧ ((injectingIn 4000).sec 0).state = .injecting ∧
    (section_ .armed).state = .armed ∧ (section_ .releasing).state = .releasing ∧
    openRecord (injectingIn 4000).records.list = some sagRecord ∧
    openRecord State.reset.records.list = none := by decide +kernel

/-- ARM_SECTION and CLEAR_FAULT with their conditions met and not met, DISARM_SECTION in each group of
states. -/
theorem witness_SectionRequests :
    ((engine 5793).sec 0).state = .bypassed ∧ (engine 5793).armingConditions 0 = true ∧
    ((sections (section_ .fault) (engine 5793)).sec 0).state = .fault ∧
    ((sections (section_ .fault) (engine 5793)).sec 0).feedback = .closed ∧
    ((engine 5793).front.status.get 0).bridgeFault = false ∧ State.reset.armingConditions 0 = false ∧
    (State.reset.sec 0).state = .out ∧
    ((sections (section_ .armed) (engine 5793)).sec 0).state = .armed ∧
    ((watchingIn 2000).sec 1).state = .watching ∧ ((injectingIn 4000).sec 2).state.carrying = true :=
  by decide +kernel

/-- BEGIN_LOAD with the load open, a flag set, the table locked, a word count out of range, and none of
these. -/
theorem witness_BeginLoad :
    (committing .supply (engine 5793)).loader.load ≠ .idle ∧
    (engine 5793).setSequence.loader.sticky.sequence = true ∧
    ((engine 5793).withLock .supply .locked).loader.locks.get .supply ≠ .unlocked ∧
    wordsInRange .supply 8 = false ∧ wordsInRange .supply 7 = true ∧ wordsInRange .curves 145 = true ∧
    wordsInRange .curves 146 = false ∧ (engine 5793).loader.load = .idle ∧
    (engine 5793).loader.sticky.any = false ∧ slotOpen (engine 5793) = true := by decide +kernel

/-- With no load no table is open for loading. -/
theorem witness_noLoad : ∀ t n, (engine 5793).loader.load ≠ .opened t n := by
  intro t n h
  cases h

/-- LOAD_WORDS with no load, with a count or an end out of range, and at the end of the buffer. -/
theorem witness_LoadWords :
    (engine 5793).loader.load = .idle ∧
    (committing .supply (engine 5793)).loader.load = .opened .supply 7 ∧ (0 : Word).toNat < 1 ∧
    16 < (17 : Word).toNat ∧ 7 < (5 : Word).toNat + (3 : Word).toNat ∧ 1 ≤ (3 : Word).toNat ∧
    (4 : Word).toNat + (3 : Word).toNat ≤ 7 ∧ slotOpen (committing .supply (engine 5793)) = true :=
  by decide +kernel

/-- Curves at the bounds of R63, and Section and Curve Tables in use and not. -/
theorem witness_TableImageTests :
    contentValid .curves (curveImage twoCurves) = true ∧ (curveImage twoCurves).length = 23 ∧
    State.reset.loader.tables.get .curves = none ∧
    (engine 5793).loader.tables.get .curves = some [1, 1, 900, 10, 500] ∧
    (engine 5793).loader.tables.get .sections = some ((List.range 4).flatMap sectionEntry) := by
  decide +kernel

/-- The two curves are allowed. -/
theorem witness_curvesAllowed : curvesAllowed twoCurves := by
  unfold curvesAllowed
  decide +kernel

/-- COMMIT_TABLE with no load, another table, a locked table, a hole, bad content, a bad cross
reference, in an episode and outside one. -/
theorem witness_CommitTable :
    State.reset.loader.load = .idle ∧ slotOpen (committing .supply (engine 5793)) = true ∧
    (committing .supply (engine 5793)).loader.load = .opened .supply 7 ∧
    (0 : Word).toNat ≠ TableId.supply.number ∧
    ((committing .supply (engine 5793)).withLock .supply .fixed).loader.locks.get .supply ≠ .unlocked ∧
    readStaging 6 holed.loader.staging = none ∧
    (∀ i, i < 7 → readStaging i badContent.loader.staging ≠ none) ∧
    contentValid .supply (stagingImage 7 badContent.loader.staging) = false ∧
    contentValid .sections (stagingImage 48 badCross.loader.staging) = true ∧
    crossValid badCross .sections (stagingImage 48 badCross.loader.staging) = false ∧
    crossValid (committing .supply (engine 5793)) .supply (stagingImage 7 (committing .supply
      (engine 5793)).loader.staging) = true ∧
    (committing .supply (engine 5793)).controller.episode = false ∧
    (inEpisode (committing .supply (engine 5793))).controller.episode = true := by decide +kernel

/-- A loaded image of a table that passes every test of its commit. -/
def placeable (t : TableId) : Bool :=
  let s := committing t (engine 5793)
  let n := (tableImage t).length
  slotOpen s && s.loader.load == .opened t n && s.loader.locks.get t == .unlocked
    && stagingComplete n s.loader.staging && contentValid t (stagingImage n s.loader.staging)
    && crossValid s t (stagingImage n s.loader.staging) && !s.controller.episode

/-- Each of the six tables ready to be applied at once. -/
theorem witness_TableReactions :
    [TableId.calibration, .supply, .sections, .curves, .store, .reference].all placeable = true := by
  decide +kernel

/-- A load and no load. -/
theorem witness_DropLoadAndClearFlags :
    (engine 5793).loader.load = .idle ∧ (committing .supply (engine 5793)).loader.load ≠ .idle ∧
    slotOpen (committing .supply (engine 5793)) = true := by decide +kernel

/-- LOCK_TABLE and UNLOCK_TABLE: levels and tables in and out of range, a FIXED table with MNT and
without; a command that leaves it FIXED. -/
theorem witness_TableLocks :
    (1 : Word) = 1 ∧ (3 : Word) ≠ 1 ∧ (3 : Word) ≠ 2 ∧ 5 < (6 : Word).toNat ∧
    ((engine 5793).withLock .store .fixed).loader.locks.get .store = .fixed ∧
    (engine 5793).loader.locks.get .store ≠ .fixed ∧
    mayUnfix (.unlockTable 4 false) false .store = false ∧
    mayUnfix (.unlockTable 3 true) true .store = false ∧ mayUnfix .restart true .store = false ∧
    (4 : Word).toNat = TableId.store.number := by decide +kernel

/-- Every law holds of the small engine and of a sag, and a step from each answers a next state. -/
theorem witness_LawsStay :
    (∀ s ∈ [engine 5793, inSag 4000, injectingIn 4000, committing .store
      (engine 5793)],
      windowsLawful s = true ∧ loaderLawful s = true ∧ recordsLawful s = true ∧
      openExactlyInEpisode s = true ∧ episodeLawful s = true ∧ haltedLawful s = true ∧
      unconfiguredLawful s = true ∧ slotLawful s = true ∧ tablesLawful s = true ∧
      storeLawful s = true ∧ rangesLawful s = true) ∧
    ∃ t, step { inSag 4000 with pending := [.sampleFrame lowFrame] } = .next t :=
  ⟨by decide +kernel, _, rfl⟩

/-! ### Steps -/

/-- A quiet frame of a nominal engine: one DRIVE frame of 19 words that answers it, header kind 3 with
the slot free. -/
theorem test_frame :
    ((after (.sampleFrame nextFrame) (engine 5793)).outPort.map List.length) = [19] ∧
    ((after (.sampleFrame nextFrame) (engine 5793)).outPort.headD []).take 3 = [19, 11, 0] ∧
    (after (.sampleFrame nextFrame) (engine 5793)).link = ⟨.running, 11, 101, some 500⟩ :=
  by decide +kernel

/-- A duplicate and a frame of the wrong length change nothing. -/
theorem test_duplicate :
    after (.sampleFrame (frameOf 10 5793 8192 0)) (engine 5793) = engine 5793 ∧
    after (.sampleFrame ⟨11, [], 0⟩) (engine 5793) = engine 5793 := by decide +kernel

/-- A power-on reset keeps the queue and the MNT pin; an asserted line discards a frame. -/
theorem test_reset :
    after (.powerOnReset false) (engine 5793) = State.reset ∧
    after (.sampleFrame nextFrame) (after (.powerOnReset true) (engine 5793)) =
      { State.reset with resetLine := true } ∧
    after .resetLineRelease (after (.powerOnReset true) (engine 5793)) = State.reset := by decide +kernel

/-- The engine with twelve values in each supply window. -/
def twelveValues : State :=
  { engine 4000 with front := { (engine 4000).front with
      supplyWin := Phases.all ⟨List.replicate 12 4000, 12 * 16000000⟩ } }

/-- The 16th value makes every level valid again. -/
theorem test_refill :
    (after (.windowRefillDone (frameOf 14 4000 0 0)) twelveValues).levels.supply =
      Phases.all (some 5656) ∧
    (after (.windowRefillDone (frameOf 15 4000 0 0)) (engine 4000)).levels.supply = Phases.all none :=
  by decide +kernel

/-- The tracker locks on its second good crossing, and unlocks on a second bad one and after 256 quiet
frames. -/
theorem test_lockChanges :
    (after (.lockGained nextFrame) aboutToLock).tracker.lock = .locked ∧
    (after (.badCrossingUnlock nextFrame) aboutToUnlock).tracker.lock = .unlocked ∧
    (after (.quietUnlock nextFrame) longQuiet).tracker.lock = .unlocked := by decide +kernel

/-- The reference becomes TRACKING by settling and by force, and the sections close. -/
theorem test_returns :
    (after (.referenceBecameTracking openFrame) settling).tracker.ref = .tracking ∧
    ((after (.referenceBecameTracking openFrame) settling).sec 0).state = .returningClosing ∧
    (after (.forcedReturn openFrame) forcedDue).records.list.map Record.forced = [true] :=
  by decide +kernel

/-- A sag start opens a record, holds the reference and sends ARMED sections with demand to INJECTING.
-/
theorem test_sagStart :
    (after (.sagStart lowFrame) (aboutToSag 4000)).detector.trigger = some ⟨.slow, .A⟩ ∧
    (after (.sagStart lowFrame) (aboutToSag 4000)).tracker.ref = .held ∧
    (after (.sagStart lowFrame) (aboutToSag 4000)).records.list.map Record.isOpen = [true] ∧
    ((after (.sagStart deepFrame) (armedAt 2000)).sec 0).state = .injecting := by decide +kernel

/-- The detector counts up in CLEAR, enters ENDING, falls back to SAG, joins a phase there when
slow_qualify is 1 (log 34), and holds through a break. -/
theorem test_detector :
    (after (.sampleFrame lowFrame) (engine 4000)).detector.slow = Phases.all 1 ∧
    (after (.sampleFrame lowFrame) (engine 4000)).detector.state = .suspect ∧
    (after (.sampleFrame nextFrame) (inSag 5793)).detector.state = .ending ∧
    (after (.sampleFrame lowFrame) (ending 1 4000)).detector.state = .sag ∧
    (after (.sampleFrame lowFrame) (ending 1 4000)).detector.involved = Phases.all false ∧
    (after (.sampleFrame lowFrame) endingQualifyOne).detector.involved = Phases.all true ∧
    (after (.sampleFrame (frameOf 15 0 0 0)) (inSag 4000)).detector.state = .sag ∧
    (after (.sampleFrame (frameOf 15 0 0 0)) (inSag 4000)).detector.suspended = true := by
  decide +kernel

/-- A sag start supersedes the OPEN record, drops the oldest of 32, and hands the outcomes of the frame. -/
theorem test_recordOpens :
    (after (.sagStart deepFrame) fullList).records.list.length = 32 ∧
    ((after (.sagStart deepFrame) fullList).records.list.drop 30).map Record.endCause =
      [some .superseded, none] ∧
    ((after (.sagStart deepFrame) fullList).records.list.getLast?.map fun r =>
      r.entries.map fun e => (e.worst, e.firstOffset)) = some (List.replicate 4 (.full, some 0)) ∧
    ((after (.sagStart lowOpen) forcedAtSag).records.list.map Record.forced) = [true] := by
  decide +kernel

/-- A sag end counts to the first ENDING frame; RESTORE slews, INPHASE closes. -/
theorem test_sagEnd :
    (after (.sagEnd openFrame) injectingAtEnd).detector.sagDuration = some 40 ∧
    ((after (.sagEnd openFrame) injectingAtEnd).sec 0).state = .returningSlewing ∧
    ((after (.sagEnd openFrame) injectingAtEnd).sec 1).state = .returningClosing := by decide +kernel

/-- A confirm that succeeds ends; one that times out faults the section. -/
theorem test_confirms :
    ((after (.openConfirmed lowOpen) openSucceeds).sec 0).confirm = .none ∧
    ((after (.openStuck lowFrame) openTimesOut).sec 0).faultCause = some .openStuck ∧
    ((after (.closeConfirmed nextFrame) (closingIn .releasing)).sec 0).state = .bypassed ∧
    ((after (.closeStuck openFrame) closeTimesOut).sec 0).faultCause = some .closeStuck :=
  by decide +kernel

/-- A report is accepted at the filter length. -/
theorem test_feedback :
    ((after (.feedbackAccepted openFrame) (sections { section_ .bypassed with filterCount := 1 }
      (engine 5793))).sec 0).feedback = .opened := by decide +kernel

/-- A bypass that moves without command faults its section. -/
theorem test_uncommanded :
    ((after (.feedbackAccepted openFrame) (aboutToAccept (section_ .armed))).sec 0).faultCause =
      some .openUncommanded ∧
    ((after (.feedbackAccepted openFrame) (aboutToAccept (section_ .bypassed))).sec 0).state =
      .bypassed ∧
    ((after (.feedbackAccepted nextFrame) (aboutToAccept (opened .injecting))).sec 0).faultCause =
      some .closeUncommanded := by decide +kernel

/-- The second over frame releases the section that is over. -/
theorem test_overcurrent :
    ((after (.overcurrent overFrame) overOnce).sec 0).state = .releasing ∧
    ((after (.overcurrent overFrame) overOnce).sec 0).lastLeave = .overcurrent := by decide +kernel

/-- At a boundary a pending ARM, an eligible section and a pending DISARM take effect. -/
theorem test_boundary :
    ((after (.armApplied nextFrame) armDue).sec 0).state = .armed ∧
    ((after (.automaticRearm nextFrame) rearmDue).sec 0).state = .armed ∧
    ((after (.disarmApplied nextFrame) disarmDue).sec 0).state = .bypassed ∧
    ((after (.sampleFrame nextFrame) armFails).sec 0).lastArm = .discardedConditions := by
  decide +kernel

/-- The end of the episode applies the PENDING image. -/
theorem test_deferred :
    (after (.deferredApplication (.sample nextFrame)) pendingSupply).loader.load = .idle ∧
    (after (.deferredApplication .silence) pendingSupply).controller.episode = false := by decide +kernel

/-- A waiting answer part follows the DRIVE frame and frees the slot; an urgent alert goes before it. -/
theorem test_outSlot :
    (after (.answerPart (.sample nextFrame)) (busy (engine 5793))).outPort.map List.length = [19, 48] ∧
    (after (.answerPart (.sample nextFrame)) (busy (engine 5793))).management.slot = none ∧
    (after (.alertFrame (.sample nextFrame)) (alerted .linkSilent (busy
      (engine 5793)))).outPort.map List.length = [19, 11] ∧
    (after (.alertFrame (.sample nextFrame)) (alerted .linkSilent (busy
      (engine 5793)))).management.slot = (busy (engine 5793)).management.slot := by decide +kernel

/-- An expiry in RUNNING bypasses the sections, closes the record and sends the safe DRIVE frame. -/
theorem test_silence :
    ((after .silenceExpiry (injectingIn 4000)).sec 0).state = .bypassed ∧
    (after .silenceExpiry (injectingIn 4000)).records.list.map Record.endCause = [some .linkSilent] ∧
    ((after .silenceExpiry (injectingIn 4000)).outPort.headD []).take 2 = [51, 10] := by decide +kernel

/-- Answers wait in the queue: identification, an unknown code, an occupied slot. -/
theorem test_answers :
    (after .readIdent (engine 5793)).management.queue =
      [⟨1, .ok, 1, 1, .words [214, 416, 1, 4, 28, 32, 256]⟩] ∧
    (after (.unknownRequest 22 0 0 0 (List.replicate 16 0)) (engine 5793)).management.queue =
      [⟨22, .unknownRequest, 1, 1, .words []⟩] ∧
    (after .readIdent (busy (engine 5793))).management.alerts.requestOverrun = some ⟨0, 0⟩ :=
  by decide +kernel

/-- READ_STATUS and READ_SECTION of a nominal engine, word by word. -/
theorem test_status :
    (statusWords (engine 5793)).take 11 = [1, 10, 0, 100, 1, 1, 0, 1, 1, 1, 1] ∧
    (sectionWords (engine 5793) 0).take 12 = [1, 0, 0, 0, 0, 0, 0, 0, 0, 0, 0, 0] := by decide +kernel

/-- READ_TABLE gives the words with their count. -/
theorem test_readTable :
    (after (.readTable 5 6 2) (engine 5793)).management.queue = [⟨4, .ok, 1, 1, .words [2, 20, 500]⟩] ∧
    (after (.readTable 5 7 2) (engine 5793)).management.queue = [⟨4, .badArgument, 1, 1, .words []⟩] :=
  by decide +kernel

/-- FETCH_RECORD takes a snapshot in two parts; an OPEN record is not discarded. -/
theorem test_records :
    (after .fetchRecord (inEpisode (engine 5793))).management.snapshot = some sagRecord ∧
    (after .fetchRecord (inEpisode (engine 5793))).management.queue.map AnswerPart.parts = [2, 2] ∧
    (after (.discardRecord 7) (inEpisode (engine 5793))).records.list = [sagRecord] := by decide +kernel

/-- HALT releases, RUN is refused while RUNNING, RESTART drops everything it names. -/
theorem test_runHalt :
    ((after .halt (injectingIn 4000)).sec 0).state = .releasing ∧
    (after .halt (injectingIn 4000)).controller.run = .halted ∧
    (after .run (engine 5793)).management.queue = [⟨7, .refusedState, 1, 1, .words []⟩] ∧
    (after .restart (injectingIn 4000)).controller.episode = false := by decide +kernel

/-- ARM_SECTION, DISARM_SECTION and CLEAR_FAULT. -/
theorem test_sections :
    ((after (.armSection 1) (engine 5793)).sec 0).pendingReq = .arm ∧
    ((after (.armSection 1) (engine 5793)).sec 1).pendingReq = .none ∧
    ((after (.disarmSection 4) (injectingIn 4000)).sec 3).state = .releasing ∧
    ((after (.clearFault 2) (sections { section_ .fault with faultCause := some .bridge }
      (engine 5793))).sec 1).state = .bypassed := by decide +kernel

/-- BEGIN_LOAD, LOAD_WORDS, COMMIT_TABLE and DROP_LOAD. -/
theorem test_load :
    (after (.beginLoad 1 7) (engine 5793)).loader.load = .opened .supply 7 ∧
    (after (.loadWords 5 2 (List.replicate 16 9)) (loading (.opened .supply 7) []
      (engine 5793))).loader.staging = [(5, 9), (6, 9)] ∧
    (after (.commitTable 1) (committing .supply { State.reset with link :=
      (engine 5793).link })).loader.tables.supply = some [1, 100, 2, 900, 950, 2, 2] ∧
    (after .dropLoad (committing .supply (engine 5793))).loader.staging = [] := by decide +kernel

/-- LOCK_TABLE raises a level, UNLOCK_TABLE needs MNT for FIXED, CLEAR_LOAD_FLAGS clears. -/
theorem test_locks :
    (after (.lockTable 4 2) (engine 5793)).loader.locks.store = .fixed ∧
    (after (.unlockTable 4 false) ((engine 5793).withLock .store .fixed)).loader.locks.store = .fixed ∧
    (after (.unlockTable 4 true) ((engine 5793).withLock .store .fixed)).loader.locks.store =
      .unlocked ∧
    (after .clearLoadFlags (engine 5793).setCross).loader.sticky = Sticky.clear := by decide +kernel

/-- SET_ALERT_MASK and CLEAR_ALERTS act on the marked kinds. -/
theorem test_alerts :
    (after (.setAlertMask 5) (engine 5793)).management.mask.get .sectionReleased = true ∧
    (after (.setAlertMask 5) (engine 5793)).management.mask.get .sectionFault = false ∧
    (after (.clearAlerts 1) (alerted .linkSilent (engine 5793))).management.alerts.linkSilent = none :=
  by decide +kernel

/-- No table word spells a command. -/
theorem test_tableWords :
    decodeTableWord 16 7 = none ∧ (engine 5793).withFetchWord 16 7 = engine 5793 := by decide +kernel

end Sys2Proof.Tests
end

section
/-! PROOFS. What any step can do: one inversion of the commands, and the induction that every law of a
state uses. -/

namespace Sys2Proof.Machine

/-! ### What a command comes to -/

/-- The engine as the work of a command finds it: the Out port empty, the MNT pin as the command says
(log 3, log 5). -/
def State.arrived (c : Instr) (s : State) : State :=
  { s with outPort := [], mntLine := mntAfter c s.mntLine }

/-- Everything a command can come to: nothing, an arrival, a request, or one of the two commands of the
reset line. -/
inductive Reaction (c : Instr) (s : State) : State → Prop where
  | discarded : Reaction c s (s.arrived c)
  | sample (f : SampleFrame) : Reaction c s (sampleArrives f (s.arrived c))
  | silence : Reaction c s (silenceExpires (s.arrived c))
  | request (r : Request) : Reaction c s (serve r (effectOf r) (s.arrived c))
  | powerOn (line : Bool) (h : c = .powerOnReset line) : Reaction c s (powerOn line s)
  | lineRelease (h : c = .resetLineRelease) : Reaction c s { s.begin with resetLine := false }

/-- Words at the In port are discarded, a SAMPLE frame or a request (R1). -/
theorem reaction_of_words (frame : List Word) (s : State) :
    Reaction (.discardWithoutTrace frame) s (wordsArrive frame s.begin) := by
  unfold wordsArrive
  split
  · split
    · exact .sample (sampleOfWords frame)
    · exact .request (requestOfWords frame)
  · exact .discarded

/-- An occasion is a SAMPLE frame or a silence expiry. -/
theorem reaction_of_occasion {c : Instr} {s : State} (o : Occasion) (h : s.arrived c = s.begin) :
    Reaction c s (occasionArrives o s.begin) := by
  rw [← h]
  cases o with
  | sample f => exact .sample f
  | silence => exact .silence

/-- Every command has one of the reactions; a request is served with the effect of its code. -/
theorem exec_reaction (c : Instr) (s : State) : ∃ t, exec c s = .next t ∧ Reaction c s t := by
  cases c with
  | discardWithoutTrace frame => exact ⟨_, rfl, reaction_of_words frame s⟩
  | powerOnReset line => exact ⟨_, rfl, .powerOn line rfl⟩
  | resetLineRelease => exact ⟨_, rfl, .lineRelease rfl⟩
  | silenceExpiry => exact ⟨_, rfl, .silence⟩
  | deferredApplication o | answerPart o | alertFrame o => exact ⟨_, rfl, reaction_of_occasion o rfl⟩
  | sampleFrame f | windowRefillDone f | lockGained f | badCrossingUnlock f | quietUnlock f
  | referenceBecameTracking f | forcedReturn f | sagStart f | sagEnd f | feedbackAccepted f
  | openConfirmed f | openStuck f | closeConfirmed f | closeStuck f | overcurrent f | armApplied f
  | disarmApplied f | automaticRearm f => exact ⟨_, rfl, .sample f⟩
  | unknownRequest code arg1 arg2 arg3 data => exact ⟨_, rfl, .request ⟨code, arg1, arg2, arg3, data⟩⟩
  | readIdent => exact ⟨_, rfl, .request (Request.plain 1 0 0 0)⟩
  | readStatus => exact ⟨_, rfl, .request (Request.plain 2 0 0 0)⟩
  | readSection sec => exact ⟨_, rfl, .request (Request.plain 3 sec 0 0)⟩
  | readTable table offset count => exact ⟨_, rfl, .request (Request.plain 4 table offset count)⟩
  | fetchRecord => exact ⟨_, rfl, .request (Request.plain 5 0 0 0)⟩
  | discardRecord seq => exact ⟨_, rfl, .request (Request.plain 6 seq 0 0)⟩
  | run => exact ⟨_, rfl, .request (Request.plain 7 0 0 0)⟩
  | halt => exact ⟨_, rfl, .request (Request.plain 8 0 0 0)⟩
  | restart => exact ⟨_, rfl, .request (Request.plain 9 0 0 0)⟩
  | armSection sec => exact ⟨_, rfl, .request (Request.plain 10 sec 0 0)⟩
  | disarmSection sec => exact ⟨_, rfl, .request (Request.plain 11 sec 0 0)⟩
  | clearFault sec => exact ⟨_, rfl, .request (Request.plain 12 sec 0 0)⟩
  | beginLoad table words => exact ⟨_, rfl, .request (Request.plain 13 table words 0)⟩
  | loadWords offset count data => exact ⟨_, rfl, .request ⟨14, offset, count, 0, data⟩⟩
  | commitTable table => exact ⟨_, rfl, .request (Request.plain 15 table 0 0)⟩
  | dropLoad => exact ⟨_, rfl, .request (Request.plain 16 0 0 0)⟩
  | lockTable table level => exact ⟨_, rfl, .request (Request.plain 17 table level 0)⟩
  | unlockTable table mnt => exact ⟨_, rfl, .request (Request.plain 18 table 0 0)⟩
  | clearLoadFlags => exact ⟨_, rfl, .request (Request.plain 19 0 0 0)⟩
  | setAlertMask marks => exact ⟨_, rfl, .request (Request.plain 20 marks 0 0)⟩
  | clearAlerts marks => exact ⟨_, rfl, .request (Request.plain 21 marks 0 0)⟩

/-- A SAMPLE frame that arrives is discarded, or accepted with its class (R2, R3, R5). -/
theorem sampleArrives_cases (f : SampleFrame) (s : State) :
    sampleArrives f s = s ∨ ∃ c, accepted c f s = true ∧ sampleArrives f s = acceptFrame c f s := by
  unfold sampleArrives
  split
  · exact .inl rfl
  · rename_i hopen
    simp only [Bool.or_eq_true, not_or, Bool.not_eq_true, bne_eq_false_iff_eq] at hopen
    obtain ⟨hline, hlen⟩ := hopen
    unfold classifiedFrame
    split
    · rename_i c hc
      exact .inr ⟨c, (accepted_iff c f s).2 ⟨hline, hlen, hc⟩, rfl⟩
    · exact .inl rfl

/-- A MANAGE frame that arrives is discarded, an overrun, or accepted into the slot (R5, R171, R172). -/
theorem serve_cases (r : Request) (effect : Effect) (s : State) :
    serve r effect s = s ∨ serve r effect s = s.raise .requestOverrun noPayload ∨
      (slotOpen s = true ∧ serve r effect s = acceptRequest r effect s) := by
  unfold serve
  split
  · exact .inl rfl
  · rename_i hopen
    split
    · exact .inr (.inl rfl)
    · rename_i hslot
      simp only [Bool.or_eq_true, not_or, Bool.not_eq_true] at hopen
      have hnone : s.management.slot = none := Option.not_isSome_iff_eq_none.1 hslot
      have hslotOpen : slotOpen s = true := by
        rw [slotOpen, hopen.1, hnone]
        rfl
      exact .inr (.inr ⟨hslotOpen, rfl⟩)

/-- The effects that requests have: one of each of the twenty-one, and that of an unknown code. -/
inductive IsRequestEffect : Effect → Prop where
  | unknown : IsRequestEffect unknownEffect
  | readIdent : IsRequestEffect readIdentEffect
  | readStatus : IsRequestEffect readStatusEffect
  | readSection (arg : Word) : IsRequestEffect (onSection arg readSectionEffect)
  | readTable (arg offset count : Word) : IsRequestEffect (onTable arg (readTableEffect offset count))
  | fetchRecord : IsRequestEffect fetchRecordEffect
  | discardRecord (seq : Word) : IsRequestEffect (discardRecordEffect seq)
  | run : IsRequestEffect runEffect
  | halt : IsRequestEffect haltEffect
  | restart : IsRequestEffect restartEffect
  | armSection (arg : Word) : IsRequestEffect (onSection arg armSectionEffect)
  | disarmSection (arg : Word) : IsRequestEffect (onSection arg disarmSectionEffect)
  | clearFault (arg : Word) : IsRequestEffect (onSection arg clearFaultEffect)
  | beginLoad (arg words : Word) : IsRequestEffect (onTable arg (beginLoadEffect words))
  | loadWords (offset count : Word) (data : List Word) :
      IsRequestEffect (loadWordsEffect offset count data)
  | commitTable (table : Word) : IsRequestEffect (commitTableEffect table)
  | dropLoad : IsRequestEffect dropLoadEffect
  | lockTable (arg level : Word) : IsRequestEffect (onTable arg (lockTableEffect level))
  | unlockTable (arg : Word) : IsRequestEffect (onTable arg unlockTableEffect)
  | clearLoadFlags : IsRequestEffect clearLoadFlagsEffect
  | setAlertMask (marks : Word) : IsRequestEffect (setAlertMaskEffect marks)
  | clearAlerts (marks : Word) : IsRequestEffect (clearAlertsEffect marks)

/-- The effect of a request's code is one of them. -/
theorem effectOf_isRequestEffect (r : Request) : IsRequestEffect (effectOf r) := by
  unfold effectOf
  split <;> constructor

/-! ### Laws that every step keeps -/

/-- A law of the state that neither the queue, the Out port nor the MNT pin enters, and that the arrivals,
the requests and the reset line keep, is kept by every step. -/
theorem step_keeps {law : State → Prop}
    (pins : ∀ (s : State) (queue : List Instr) (line mnt : Bool), law s →
      law { s with pending := queue, resetLine := line, mntLine := mnt, outPort := [] })
    (atReset : law State.reset)
    (sample : ∀ (f : SampleFrame) (s : State), law s → law (sampleArrives f s))
    (silence : ∀ s : State, law s → law (silenceExpires s))
    (request : ∀ (r : Request) (s : State), law s → law (serve r (effectOf r) s))
    {s t : State} (hs : law s) (h : step s = .next t) : law t := by
  unfold step at h
  split at h
  · cases h
    exact hs
  · rename_i c rest _
    obtain ⟨u, hu, hr⟩ := exec_reaction c { s with pending := rest }
    rw [hu] at h
    cases h
    have harrived : law (State.arrived c { s with pending := rest }) := pins s rest s.resetLine _ hs
    cases hr with
    | discarded => exact harrived
    | sample f => exact sample f _ harrived
    | silence => exact silence _ harrived
    | request r => exact request r _ harrived
    | powerOn line _ => exact pins State.reset rest line s.mntLine atReset
    | lineRelease _ => exact pins s rest false s.mntLine hs

end Sys2Proof.Machine
end

section
/-! PROOFS. The front end: its fifteen windows as one family, what an accepted frame makes of them, and
which commands leave them alone. -/

namespace Sys2Proof.Machine

/-! ### The fifteen windows as one family -/

/-- Where a level window stands: at a supply phase, or at a load phase of a section (R14). -/
inductive Site where
  | supply (p : Phase)
  | load (k : Fin 4) (p : Phase)

/-- The channel whose values a window takes. -/
def Site.channel : Site → Nat
  | .supply p => supplyChannel p
  | .load k p => loadChannel k p

/-- The window at a site. -/
def FrontEnd.window (fe : FrontEnd) : Site → Window
  | .supply p => fe.supplyWin.get p
  | .load k p => (fe.loadWin.get k).get p

/-- The level at a site. -/
def Levels.at (l : Levels) : Site → Option Nat
  | .supply p => l.supply.get p
  | .load k p => (l.load.get k).get p

/-- The windows are lawful exactly when the one at each site is. -/
theorem windowsLawful_iff (s : State) :
    windowsLawful s = true ↔ ∀ i : Site, (s.front.window i).lawful = true := by
  unfold windowsLawful
  rw [Bool.and_eq_true, Phases.all_toList, Four.all_toList]
  constructor
  · rintro ⟨hsupply, hload⟩ (p | ⟨k, p⟩)
    · exact hsupply p
    · exact (Phases.all_toList _ _).1 (hload k) p
  · intro h
    exact ⟨fun p => h (.supply p), fun k => (Phases.all_toList _ _).2 fun p => h (.load k p)⟩

@[simp] theorem window_emptied (fe : FrontEnd) (i : Site) : fe.emptied.window i = Window.empty := by
  cases i <;> simp [FrontEnd.window, FrontEnd.emptied]

@[simp] theorem window_entered (fe : FrontEnd) (values : List Int) (i : Site) :
    (fe.entered values).window i = (fe.window i).enter (channel values i.channel) := by
  cases i <;> simp [FrontEnd.window, FrontEnd.entered, Site.channel]

@[simp] theorem levels_at (fe : FrontEnd) (i : Site) : fe.levels.at i = (fe.window i).level := by
  cases i <;> simp [FrontEnd.window, FrontEnd.levels, Levels.at]

/-! ### Several values into one window -/

/-- Values that enter a window one after another. -/
def Window.enterAll (w : Window) (zs : List Int) : Window := zs.foldl Window.enter w

@[simp] theorem enterAll_nil (w : Window) : w.enterAll [] = w := rfl

@[simp] theorem enterAll_cons (w : Window) (z : Int) (zs : List Int) :
    w.enterAll (z :: zs) = (w.enter z).enterAll zs := rfl

theorem enterAll_append (w : Window) (zs ys : List Int) :
    w.enterAll (zs ++ ys) = (w.enterAll zs).enterAll ys := List.foldl_append

/-- Values that enter a lawful window leave it lawful (R14). -/
theorem enterAll_lawful {w : Window} (zs : List Int) (h : w.lawful = true) :
    (w.enterAll zs).lawful = true := by
  induction zs generalizing w with
  | nil => exact h
  | cons z zs ih => exact ih (enter_lawful z h)

/-- An entry lengthens a window that is not full, and leaves the length of a full one (R14). -/
theorem enter_length (w : Window) (z : Int) :
    (w.enter z).values.length = if w.values.length < 64 then w.values.length + 1 else w.values.length := by
  unfold Window.enter Config.windowSize
  split <;> simp
  omega

/-- Whether a window has 16 values after entries: it never loses a value that it needs for them. -/
theorem enterAll_min (w : Window) (zs : List Int) :
    16 ≤ (w.enterAll zs).values.length ↔ 16 ≤ w.values.length + zs.length := by
  induction zs generalizing w with
  | nil => rfl
  | cons z zs ih =>
    rw [enterAll_cons, ih, enter_length, List.length_cons]
    split <;> omega

/-- A window of at most 64 values keeps the newest 64 of those it had and those that enter (R14). -/
theorem enterAll_values {w : Window} (zs : List Int) (h : w.values.length ≤ 64) :
    (w.enterAll zs).values = (w.values ++ zs).drop ((w.values ++ zs).length - 64) := by
  induction zs generalizing w with
  | nil => simp [Nat.sub_eq_zero_of_le h]
  | cons z zs ih =>
    have hlen : (w.enter z).values.length ≤ 64 := by
      rw [enter_length]
      split <;> omega
    have hdrop : (w.values ++ [z]).drop ((w.values ++ [z]).length - 64) ++ zs =
        (w.values ++ z :: zs).drop ((w.values ++ [z]).length - 64) := by
      rw [← List.drop_append_of_le_length (Nat.sub_le _ _), List.append_assoc, List.singleton_append]
    rw [enterAll_cons, ih hlen, enter_values z h, hdrop, List.drop_drop]
    refine congrArg (fun n => List.drop n (w.values ++ z :: zs)) ?_
    simp only [List.length_drop, List.length_append, List.length_cons, List.length_nil]
    omega

/-! ### Gap frames -/

/-- The gap frames give each window one copy of its held value each (R13). -/
theorem window_filled {fe : FrontEnd} {held : List Int} (h : fe.held = some held) (g : Nat) (i : Site) :
    (fe.filled g).window i = (fe.window i).enterAll (List.replicate g (channel held i.channel)) := by
  induction g generalizing fe with
  | zero => rfl
  | succ g ih =>
    have hstep : fe.filled (g + 1) = (fe.entered held).filled g := by simp [FrontEnd.filled, h]
    rw [hstep, ih (fe := fe.entered held) h, window_entered, List.replicate_succ, enterAll_cons]

/-- Without a held set nothing enters for gap frames (log 24). -/
theorem filled_of_noHeld {fe : FrontEnd} (h : fe.held = none) (g : Nat) : fe.filled g = fe := by
  cases g <;> simp [FrontEnd.filled, h]

/-- A break leaves the frame's own value alone in each window (R16). -/
theorem window_windowed_of_break {c : StepClass} (h : c.kind = .brk) (fe : FrontEnd)
    (values : List Int) (i : Site) :
    (fe.windowed c values).window i = Window.empty.enter (channel values i.channel) := by
  simp [FrontEnd.windowed, h]

/-- In any other frame each window takes its held value for each gap frame and then the frame's own
(R13, R14). -/
theorem window_windowed {c : StepClass} (h : c.kind ≠ .brk) {fe : FrontEnd} {held : List Int}
    (hheld : fe.held = some held) (values : List Int) (i : Site) :
    (fe.windowed c values).window i = (fe.window i).enterAll
      (List.replicate c.gap (channel held i.channel) ++ [channel values i.channel]) := by
  simp [FrontEnd.windowed, h, window_filled hheld, enterAll_append]

/-- The windows after a frame are lawful when they were (R14). -/
theorem windowed_lawful {fe : FrontEnd} (h : ∀ i, (fe.window i).lawful = true) (c : StepClass)
    (values : List Int) (i : Site) : ((fe.windowed c values).window i).lawful = true := by
  by_cases hk : c.kind = .brk
  · rw [window_windowed_of_break hk]
    exact enter_lawful _ rfl
  · cases hheld : fe.held with
    | some held =>
      rw [window_windowed hk hheld]
      exact enterAll_lawful _ (h i)
    | none =>
      simp only [FrontEnd.windowed, hk, if_false, filled_of_noHeld hheld, window_entered]
      exact enter_lawful _ (h i)

/-! ### The front end after an accepted frame -/

/-- Gain and offset are read from the tables in use alone (R10). -/
theorem gain_offset_congr {s t : State} (h : t.loader = s.loader) (c : Nat) :
    t.gain c = s.gain c ∧ t.offset c = s.offset c := by
  have himage : t.image = s.image := by
    funext u
    rw [State.image, State.image, h]
  exact ⟨by rw [State.gain, State.gain, State.valid, State.valid, State.field, State.field, himage],
    by rw [State.offset, State.offset, himage]⟩

/-- Calibration reads the tables in use alone (R10). -/
theorem calibratedSet_congr {s t : State} (h : t.loader = s.loader) (codes : List Word) :
    calibratedSet t codes = calibratedSet s codes := by
  simp only [calibratedSet, gain_offset_congr h]

/-- What the front end holds once a frame has been measured (R11 to R17). -/
theorem front_measureFrame (c : StepClass) (f : SampleFrame) (s : State) :
    (measureFrame c f s).front =
      { s.front.windowed c (calibratedSet s f.codes) with
        held := some (calibratedSet s f.codes)
        status := Four.build (driverStatus f.status)
        gap := c.gap
        published := some
          { frameNumber := (linkWork c f s).link.counter, kind := c.kind, gap := c.gap
            values := calibratedSet s f.codes, status := Four.build (driverStatus f.status)
            levels := (s.front.windowed c (calibratedSet s f.codes)).levels } } := by
  have hloader : (linkWork c f s).loader = s.loader := by simp
  have hfront : (linkWork c f s).front = s.front := by simp
  unfold measureFrame frontWork
  simp only [calibratedSet_congr hloader, hfront]

/-- The windows once a frame has been measured. -/
@[simp] theorem window_measureFrame (c : StepClass) (f : SampleFrame) (s : State) (i : Site) :
    (measureFrame c f s).front.window i =
      (s.front.windowed c (calibratedSet s f.codes)).window i := by
  rw [front_measureFrame]
  cases i <;> rfl

/-- The levels published with a frame are those of its windows (R15, R17). -/
theorem levels_measureFrame (c : StepClass) (f : SampleFrame) (s : State) (i : Site) :
    (measureFrame c f s).levels.at i = ((measureFrame c f s).front.window i).level := by
  rw [window_measureFrame, ← levels_at, State.levels, front_measureFrame]

/-- No later block touches the front end. -/
@[simp] theorem front_acceptFrame (c : StepClass) (f : SampleFrame) (s : State) :
    (acceptFrame c f s).front = (measureFrame c f s).front := by
  simp [acceptFrame]

/-! ### The front end under requests -/

/-- An effect that leaves the front end alone. -/
def Effect.keepsFront (effect : Effect) : Prop := ∀ s : State, (effect s).1.front = s.front

theorem onSection_keepsFront {effect : Fin 4 → Effect} (arg : Word)
    (h : ∀ k, (effect k).keepsFront) : (onSection arg effect).keepsFront := by
  intro s
  unfold onSection
  split
  · exact h _ s
  · rfl

theorem onTable_keepsFront {effect : TableId → Effect} (arg : Word)
    (h : ∀ t, (effect t).keepsFront) : (onTable arg effect).keepsFront := by
  intro s
  unfold onTable
  split
  · exact h _ s
  · rfl

theorem readTableEffect_keepsFront (offset count : Word) (t : TableId) :
    (readTableEffect offset count t).keepsFront := by
  intro s
  unfold readTableEffect
  (repeat' split) <;> rfl

theorem fetchRecordEffect_keepsFront : fetchRecordEffect.keepsFront := by
  intro s
  unfold fetchRecordEffect
  split <;> rfl

theorem discardRecordEffect_keepsFront (seq : Word) : (discardRecordEffect seq).keepsFront := by
  intro s
  unfold discardRecordEffect
  (repeat' split) <;> rfl

theorem runEffect_keepsFront : runEffect.keepsFront := by
  intro s
  unfold runEffect
  split <;> rfl

theorem haltEffect_keepsFront : haltEffect.keepsFront := by
  intro s
  simp [haltEffect, placeMoves]

theorem armSectionEffect_keepsFront (k : Fin 4) : (armSectionEffect k).keepsFront := by
  intro s
  unfold armSectionEffect
  dsimp only
  split <;> rfl

theorem disarmSectionEffect_keepsFront (k : Fin 4) : (disarmSectionEffect k).keepsFront := by
  intro s
  unfold disarmSectionEffect
  split <;> simp

theorem clearFaultEffect_keepsFront (k : Fin 4) : (clearFaultEffect k).keepsFront := by
  intro s
  unfold clearFaultEffect
  dsimp only
  split <;> rfl

theorem beginLoadEffect_keepsFront (words : Word) (t : TableId) :
    (beginLoadEffect words t).keepsFront := by
  intro s
  unfold beginLoadEffect
  (repeat' split) <;> rfl

theorem loadWordsEffect_keepsFront (offset count : Word) (data : List Word) :
    (loadWordsEffect offset count data).keepsFront := by
  intro s
  unfold loadWordsEffect
  (repeat' split) <;> rfl

theorem placeImage_keepsFront (t : TableId) (n : Nat) : (placeImage t n).keepsFront := by
  intro s
  unfold placeImage
  split <;> simp

theorem judgeImage_keepsFront (t : TableId) (n : Nat) : (judgeImage t n).keepsFront := by
  intro s
  unfold judgeImage
  dsimp only
  (repeat' split)
  · rfl
  · rfl
  · exact placeImage_keepsFront t n s

theorem commitTableEffect_keepsFront (table : Word) : (commitTableEffect table).keepsFront := by
  intro s
  unfold commitTableEffect
  (repeat' split)
  · rfl
  · rfl
  · rfl
  · exact judgeImage_keepsFront _ _ s
  · rfl
  · rfl

theorem dropLoadEffect_keepsFront : dropLoadEffect.keepsFront := by
  intro s
  unfold dropLoadEffect
  split <;> rfl

theorem lockTableEffect_keepsFront (level : Word) (t : TableId) :
    (lockTableEffect level t).keepsFront := by
  intro s
  unfold lockTableEffect
  split <;> rfl

theorem unlockTableEffect_keepsFront (t : TableId) : (unlockTableEffect t).keepsFront := by
  intro s
  unfold unlockTableEffect
  split <;> rfl

theorem setAlertMaskEffect_keepsFront (marks : Word) : (setAlertMaskEffect marks).keepsFront := by
  intro s
  unfold setAlertMaskEffect
  split <;> rfl

theorem clearAlertsEffect_keepsFront (marks : Word) : (clearAlertsEffect marks).keepsFront := by
  intro s
  unfold clearAlertsEffect
  split <;> rfl

/-- RESTART empties the windows and leaves the rest of the front end (R16, R18). -/
theorem front_restartEffect (s : State) : (restartEffect s).1.front = s.front.emptied := by
  simp [restartEffect]

/-- A request leaves the front end alone, but for RESTART, which empties its windows (R16, R18). -/
theorem front_effectOf (r : Request) (s : State) :
    (effectOf r s).1.front = s.front ∨ (effectOf r s).1.front = s.front.emptied := by
  have he := effectOf_isRequestEffect r
  generalize effectOf r = effect at he
  cases he with
  | restart => exact .inr (front_restartEffect s)
  | unknown | readIdent | readStatus | clearLoadFlags => exact .inl rfl
  | readSection arg => exact .inl (onSection_keepsFront arg (fun _ _ => rfl) s)
  | readTable arg => exact .inl (onTable_keepsFront arg (readTableEffect_keepsFront _ _) s)
  | fetchRecord => exact .inl (fetchRecordEffect_keepsFront s)
  | discardRecord seq => exact .inl (discardRecordEffect_keepsFront seq s)
  | run => exact .inl (runEffect_keepsFront s)
  | halt => exact .inl (haltEffect_keepsFront s)
  | armSection arg => exact .inl (onSection_keepsFront arg armSectionEffect_keepsFront s)
  | disarmSection arg => exact .inl (onSection_keepsFront arg disarmSectionEffect_keepsFront s)
  | clearFault arg => exact .inl (onSection_keepsFront arg clearFaultEffect_keepsFront s)
  | beginLoad arg => exact .inl (onTable_keepsFront arg (beginLoadEffect_keepsFront _) s)
  | loadWords => exact .inl (loadWordsEffect_keepsFront _ _ _ s)
  | commitTable table => exact .inl (commitTableEffect_keepsFront table s)
  | dropLoad => exact .inl (dropLoadEffect_keepsFront s)
  | lockTable arg => exact .inl (onTable_keepsFront arg (lockTableEffect_keepsFront _) s)
  | unlockTable arg => exact .inl (onTable_keepsFront arg unlockTableEffect_keepsFront s)
  | setAlertMask marks => exact .inl (setAlertMaskEffect_keepsFront marks s)
  | clearAlerts marks => exact .inl (clearAlertsEffect_keepsFront marks s)

/-- A MANAGE frame leaves the front end alone, but for RESTART, which empties its windows. -/
theorem front_serve (r : Request) (s : State) :
    (serve r (effectOf r) s).front = s.front ∨ (serve r (effectOf r) s).front = s.front.emptied := by
  rcases serve_cases r (effectOf r) s with h | h | ⟨_, h⟩
  · exact .inl (by rw [h])
  · exact .inl (by rw [h, front_raise])
  · rw [h]
    exact front_effectOf r { s with management := { s.management with slot := some r } }

/-! ### Lawful windows -/

/-- The law speaks of the front end alone. -/
theorem windowsLawful_of_front {s t : State} (h : t.front = s.front) (hs : windowsLawful s = true) :
    windowsLawful t = true := by
  rw [windowsLawful, h]
  exact hs

/-- Emptied windows are lawful. -/
theorem windowsLawful_of_emptied {s t : State} (h : t.front = s.front.emptied) :
    windowsLawful t = true :=
  (windowsLawful_iff t).2 fun i => by rw [h, window_emptied]; rfl

/-- A SAMPLE frame keeps the windows lawful (R14). -/
theorem windowsLawful_sampleArrives (f : SampleFrame) (s : State) (hs : windowsLawful s = true) :
    windowsLawful (sampleArrives f s) = true := by
  rcases sampleArrives_cases f s with h | ⟨c, _, h⟩
  · rw [h]
    exact hs
  · rw [h, windowsLawful_iff]
    intro i
    rw [front_acceptFrame, window_measureFrame]
    exact windowed_lawful ((windowsLawful_iff s).1 hs) c _ i

/-- A MANAGE frame keeps the windows lawful. -/
theorem windowsLawful_serve (r : Request) (s : State) (hs : windowsLawful s = true) :
    windowsLawful (serve r (effectOf r) s) = true := by
  rcases front_serve r s with h | h
  · exact windowsLawful_of_front h hs
  · exact windowsLawful_of_emptied h

/-- Settles O53: only accepted frames and RESTART touch the windows; values enter lawful windows, and
emptied ones are lawful. -/
theorem windowsStayLawful : Obligations.WindowsStayLawful := by
  intro s t hs h
  exact step_keeps (law := fun s => windowsLawful s = true)
    (pins := fun _ _ _ _ h => h) (atReset := rfl)
    (sample := windowsLawful_sampleArrives)
    (silence := fun s => windowsLawful_of_front (by simp))
    (request := windowsLawful_serve) hs h

end Sys2Proof.Machine
end

section
/-! PROOFS. What an accepted frame leaves in the link interface and the front end, and which alerts each
block's work can raise. -/

namespace Sys2Proof.Machine

/-! ### Classes of a frame (R2, R3) -/

/-- Outside RUNNING every frame is a break (R2). -/
theorem classify_of_notRunning {l : Link} (h : l.meas ≠ .running) (seq : Word) :
    classify l seq = some ⟨.brk, 0⟩ := if_neg h

/-- The sequence step of the frame `step` numbers after the last one is `step` (R3). -/
theorem sequenceStep_add (last : Word) {step : Nat} (h : step < 65536) :
    sequenceStep (last + Word.ofNat step) last = step := by
  unfold sequenceStep
  rw [BitVec.add_comm, BitVec.add_sub_cancel, BitVec.toNat_ofNat]
  exact Nat.mod_eq_of_lt h

/-- In RUNNING the sequence step tells the class (R3). -/
theorem classify_of_running {l : Link} (h : l.meas = .running) (seq : Word) :
    classify l seq =
      if sequenceStep seq l.lastSeq = 0 then none
      else if sequenceStep seq l.lastSeq = 1 then some ⟨.normal, 0⟩
      else if sequenceStep seq l.lastSeq ≤ 4 then some ⟨.shortGap, sequenceStep seq l.lastSeq - 1⟩
      else some ⟨.brk, 0⟩ := if_pos h

/-- A duplicate changes nothing (R3). -/
theorem sampleArrives_of_duplicate {f : SampleFrame} {s : State} (hrun : s.link.meas = .running)
    (hseq : f.seq = s.link.lastSeq) : sampleArrives f s = s := by
  have hnone : classify s.link f.seq = none := by
    rw [classify_of_running hrun, hseq, if_pos (by simp [sequenceStep])]
  unfold sampleArrives classifiedFrame
  rw [hnone]
  split <;> rfl

/-! ### Link interface and front end after an accepted frame -/

/-- The link interface once a frame has been measured (R2, R4, R6). -/
theorem link_measured (c : StepClass) (f : SampleFrame) (s : State) :
    (measured c f s).link =
      { meas := .running, lastSeq := f.seq, counter := s.link.counter + BitVec.ofNat 32 (c.gap + 1)
        timer := some s.silenceLimit } := by
  simp only [measured, measureFrame, frontWork_leaves]
  rfl

/-- The later stages of a frame leave the link interface and the front end alone. -/
theorem link_front_acceptedFrame (c : StepClass) (f : SampleFrame) (s : State) :
    (fillOutSlot (atSlot c f s)).link = (measured c f s).link ∧
    (fillOutSlot (atSlot c f s)).front = (measured c f s).front := by
  simp [atSlot, judged]

/-- The levels that stand after a frame are those of its windows (R15, R17). -/
theorem levels_acceptedFrame (c : StepClass) (f : SampleFrame) (s : State) (i : Site) :
    (fillOutSlot (atSlot c f s)).levels.at i =
      ((fillOutSlot (atSlot c f s)).front.window i).level := by
  have hfront := (link_front_acceptedFrame c f s).2
  rw [hfront, State.levels, hfront]
  exact levels_measureFrame c f s.begin i

/-- The windows that stand after a frame. -/
theorem window_acceptedFrame (c : StepClass) (f : SampleFrame) (s : State) (i : Site) :
    (fillOutSlot (atSlot c f s)).front.window i =
      (s.front.windowed c (calibratedSet s f.codes)).window i := by
  rw [(link_front_acceptedFrame c f s).2]
  exact window_measureFrame c f s.begin i

/-- The held set after a frame is the frame's calibrated one (R11). -/
theorem held_acceptedFrame (c : StepClass) (f : SampleFrame) (s : State) :
    (fillOutSlot (atSlot c f s)).front.held = some (calibratedSet s f.codes) ∧
    (fillOutSlot (atSlot c f s)).values = calibratedSet s f.codes ∧
    (fillOutSlot (atSlot c f s)).front.status = Four.build (driverStatus f.status) := by
  have hfront := (link_front_acceptedFrame c f s).2
  rw [State.values, hfront, measured, front_measureFrame]
  exact ⟨rfl, rfl, rfl⟩

/-- Settles O6: the classes by the sequence step, and the link interface's own work on a frame. -/
theorem frameClassAndLink : Obligations.FrameClassAndLink := by
  refine ⟨fun l seq h => classify_of_notRunning h seq, fun l step hrun hstep => ?_,
    fun f s hrun hseq => ?_, fun c f s hacc => ?_⟩
  · rw [classify_of_running hrun, sequenceStep_add _ hstep]
  · exact congrArg Host.Outcome.next (sampleArrives_of_duplicate (s := s.begin) hrun hseq)
  · exact ⟨_, exec_sampleFrame_of_accepted hacc,
      (link_front_acceptedFrame c f s).1.trans (link_measured c f s)⟩

/-! ### Levels (R15, R16) -/

/-- A window has a level exactly when it holds 16 values (R15, R16). -/
theorem level_isSome_iff (w : Window) : w.level.isSome = true ↔ 16 ≤ w.values.length := by
  unfold Window.level Config.windowSize Config.windowMin
  dsimp only
  split
  · simp
    omega
  · split <;> simp <;> omega

/-- The mean square, doubled, whose root is the level of a window with 16 to 64 values (R15). -/
theorem level_of_range {w : Window} (hmin : 16 ≤ w.values.length) (hmax : w.values.length ≤ 64) :
    w.level = some (isqrt
      (if w.values.length = 64 then w.sumSq / 32 else 2 * w.sumSq / w.values.length)) := by
  unfold Window.level Config.windowSize Config.windowMin
  dsimp only
  by_cases hfull : w.values.length = 64
  · rw [if_pos hfull, if_pos (by omega)]
  · rw [if_neg hfull, if_neg (by omega), if_pos hmin]

/-- Settles O9: the level is the integer root of the spec, and the published levels are those of the
windows. -/
theorem levelIsLargestRoot : Obligations.LevelIsLargestRoot := by
  refine ⟨fun w h => ?_, fun w hmin hmax => ?_, fun c f s hacc => ?_⟩
  · cases hl : w.level with
    | none => rfl
    | some l =>
      have := (level_isSome_iff w).1 (by rw [hl]; rfl)
      omega
  · exact ⟨_, level_of_range hmin hmax, isqrt_spec _⟩
  · exact ⟨_, exec_sampleFrame_of_accepted hacc,
      fun p => levels_acceptedFrame c f s (.supply p), fun k p => levels_acceptedFrame c f s (.load k p)⟩

/-! ### Calibration (R11, R12) -/

/-- A calibrated value is the exact quotient rounded to nearest, ties away from zero, and saturated
(R11). -/
theorem calibrate_spec (code offset : Int) (gain : Nat) :
    let y : Int := (code - offset) * gain
    let z : Int := calibrate code offset gain
    (16384 * 32767 ≤ y → z = 32767) ∧ (y ≤ -(16384 * 32767) → z = -32767) ∧
    (-(16384 * 32767) < y → y < 16384 * 32767 →
      (16384 * z - y).natAbs ≤ 8192 ∧
        ((16384 * z - y).natAbs = 8192 → y.natAbs < (16384 * z).natAbs)) := by
  intro y z
  obtain ⟨hnear, htie⟩ : (2 * (16384 * roundDiv y 16384 - y)).natAbs ≤ 16384 ∧
      ((2 * (16384 * roundDiv y 16384 - y)).natAbs = 16384 →
        y.natAbs < (16384 * roundDiv y 16384).natAbs) := roundDiv_spec y (by decide)
  have hz : z = clampInt (-32767) 32767 (roundDiv y 16384) := rfl
  unfold clampInt at hz
  generalize roundDiv y 16384 = q at hz hnear htie
  refine ⟨fun h => by omega, fun h => by omega, fun hlo hhi => ?_⟩
  have hzq : z = q := by omega
  subst hzq
  exact ⟨by omega, fun h => htie (by omega)⟩

/-- A frame has one calibrated value for each of the 28 channels. -/
theorem calibratedSet_length (s : State) (codes : List Word) : (calibratedSet s codes).length = 28 := by
  simp [calibratedSet, Config.channelCount]

/-- The calibrated value of a channel (R11). -/
theorem calibratedSet_getD (s : State) (codes : List Word) (ch : Fin 28) :
    (calibratedSet s codes).getD ch.val 0 =
      calibrate (codes.getD ch.val 0).toInt (s.offset ch.val) (s.gain ch.val) := by
  have hch : ch.val < (List.range Config.channelCount).length := by
    simp [Config.channelCount]
  rw [calibratedSet, List.getD_eq_getElem?_getD, List.getElem?_map, List.getElem?_eq_getElem hch,
    List.getElem_range]
  rfl

/-- The values of a window after a frame that is no break (R13, R14). -/
theorem window_values_acceptedFrame {c : StepClass} {f : SampleFrame} {s : State} {held : List Int}
    (hheld : s.front.held = some held) (hk : c.kind ≠ .brk) (hlaw : windowsLawful s = true) (i : Site) :
    let all := (s.front.window i).values ++ List.replicate c.gap (channel held i.channel)
      ++ [channel (fillOutSlot (atSlot c f s)).values i.channel]
    ((fillOutSlot (atSlot c f s)).front.window i).values = all.drop (all.length - 64) := by
  have hi := (windowsLawful_iff s).1 hlaw i
  simp only [Window.lawful, Bool.and_eq_true, decide_eq_true_eq] at hi
  intro all
  rw [window_acceptedFrame, window_windowed hk hheld, enterAll_values _ hi.1,
    ← (held_acceptedFrame c f s).2.1, ← List.append_assoc]

/-- Settles O8: the calibrated set, the status bits, and each window by the entries it takes. -/
theorem calibratedSetAndWindows : Obligations.CalibratedSetAndWindows := by
  intro c f s hacc
  obtain ⟨hheld, hvalues, hstatus⟩ := held_acceptedFrame c f s
  refine ⟨_, exec_sampleFrame_of_accepted hacc, by rw [hheld, hvalues], ?_, fun k => ?_, fun ch => ?_,
    fun held hs hk hlaw => ⟨fun p => ?_, fun k p => ?_⟩⟩
  · rw [hvalues, calibratedSet_length]
  · rw [hstatus, Four.get_build]
    rfl
  · rw [hvalues, calibratedSet_getD]
    exact calibrate_spec _ _ _
  · exact window_values_acceptedFrame hs hk hlaw (.supply p)
  · exact window_values_acceptedFrame hs hk hlaw (.load k p)

end Sys2Proof.Machine
end

section
/-! PROOFS. Which alerts a frame's work can raise, so that an alert raised early in a frame stands when its
out slot is filled. -/

namespace Sys2Proof.Machine

/-! ### Raising one alert and reading another (R179) -/

/-- A raising leaves the flag of every other kind. -/
theorem alerts_raise_of_ne (s : State) {j k : AlertKind} (h : j ≠ k) (p : Payload) :
    (s.raise j p).management.alerts.get k = s.management.alerts.get k :=
  (PerKind.get_set _ _ _ _).trans (if_neg h)

/-- Raisings of other kinds leave the flag of a kind. -/
theorem alerts_raiseAll_of_ne {k : AlertKind} {as : List (AlertKind × Payload)}
    (h : ∀ a ∈ as, a.1 ≠ k) (s : State) :
    (s.raiseAll as).management.alerts.get k = s.management.alerts.get k := by
  induction as generalizing s with
  | nil => rfl
  | cons a as ih =>
    have htail := ih (fun b hb => h b (List.mem_cons_of_mem a hb)) (s.raise a.1 a.2)
    exact htail.trans (alerts_raise_of_ne s (h a List.mem_cons_self) a.2)

/-! ### What a section raises (R108) -/

/-- The kinds of alert that a section's transition raises. -/
def AlertKind.ofSections : AlertKind → Bool
  | .sectionFault | .sectionReleased | .sectionDegraded => true
  | .linkSilent | .storeLow | .sagStart | .episodeEnd | .trackerUnlock | .measurementBreak
  | .commitDone | .requestOverrun => false

/-- A move that raises alerts of sections alone. -/
def Moved.raisesOfSections (m : Moved) : Prop := ∀ a ∈ m.alerts, a.1.ofSections = true

@[simp] theorem quiet_raises (x : Section) : (Moved.quiet x).raisesOfSections := by
  simp [Moved.raisesOfSections, Moved.quiet]

@[simp] theorem silentMove_raises (x : Section) (os : List EntryOutcome) :
    (Moved.mk x [] os).raisesOfSections := by
  simp [Moved.raisesOfSections]

@[simp] theorem faultMove_raises (k : Fin 4) (c : Cause) (x : Section) (os : List EntryOutcome) :
    (Moved.mk x [causeAlert .sectionFault k c] os).raisesOfSections := by
  simp [Moved.raisesOfSections, causeAlert, AlertKind.ofSections]

@[simp] theorem releasedMove_raises (k : Fin 4) (c : Cause) (x : Section) (os : List EntryOutcome) :
    (Moved.mk x [causeAlert .sectionReleased k c] os).raisesOfSections := by
  simp [Moved.raisesOfSections, causeAlert, AlertKind.ofSections]

@[simp] theorem degradedMove_raises (k : Fin 4) (x : Section) (os : List EntryOutcome) :
    (Moved.mk x [degradedAlert k] os).raisesOfSections := by
  simp [Moved.raisesOfSections, degradedAlert, AlertKind.ofSections]

@[simp] theorem enterFault_raises (k : Fin 4) (c : Cause) (x : Section) :
    (enterFault k c x).raisesOfSections := faultMove_raises k c _ _

@[simp] theorem leaveToBypassed_raises (k : Fin 4) (c : Cause) (e : Bool) (o : EntryOutcome)
    (x : Section) : (leaveToBypassed k c e o x).raisesOfSections := releasedMove_raises k c _ _

@[simp] theorem leaveToReleasing_raises (k : Fin 4) (c : Cause) (e : Bool) (o : EntryOutcome)
    (x : Section) : (leaveToReleasing k c e o x).raisesOfSections := releasedMove_raises k c _ _

@[simp] theorem enterInjecting_raises (k : Fin 4) (o : Band) (x : Section) :
    (enterInjecting k o x).raisesOfSections := by
  unfold enterInjecting
  split <;> simp

@[simp] theorem decideBypassed_raises (v : SectionView) (x : Section) :
    (decideBypassed v x).raisesOfSections := by
  unfold decideBypassed
  (repeat' split) <;> simp

@[simp] theorem decideArmed_raises (k : Fin 4) (v : SectionView) (o : Bool) (x : Section) :
    (decideArmed k v o x).raisesOfSections := by
  unfold decideArmed armedAtSagStart
  (repeat' split) <;> simp

@[simp] theorem decideWatching_raises (k : Fin 4) (v : SectionView) (o : Bool) (x : Section) :
    (decideWatching k v o x).raisesOfSections := by
  unfold decideWatching
  (repeat' split) <;> simp

theorem openHazard_raises {k : Fin 4} {v : SectionView} {a b : Bool} {x : Section} {m : Moved}
    (h : openHazard k v a b x = some m) : m.raisesOfSections := by
  unfold openHazard at h
  (repeat' split at h) <;> cases h <;> simp

@[simp] theorem injectingUnderOrders_raises (k : Fin 4) (v : SectionView) (x : Section) :
    (injectingUnderOrders k v x).raisesOfSections := by
  unfold injectingUnderOrders
  split <;> simp

@[simp] theorem decideInjecting_raises (k : Fin 4) (v : SectionView) (a b : Bool) (x : Section) :
    (decideInjecting k v a b x).raisesOfSections := by
  unfold decideInjecting
  split
  · exact openHazard_raises ‹_›
  · (repeat' split) <;> simp

@[simp] theorem decideSlewing_raises (k : Fin 4) (v : SectionView) (a b : Bool) (x : Section) :
    (decideSlewing k v a b x).raisesOfSections := by
  unfold decideSlewing slewingAtSagStart
  split
  · exact openHazard_raises ‹_›
  · (repeat' split) <;> simp

@[simp] theorem closedToArmed_raises (v : SectionView) (x : Section) :
    (closedToArmed v x).raisesOfSections := by
  unfold closedToArmed
  dsimp only
  split <;> simp

@[simp] theorem closeStuckFault_raises (k : Fin 4) (x : Section) :
    (closeStuckFault k x).raisesOfSections := enterFault_raises k _ _

@[simp] theorem decideClosing_raises (k : Fin 4) (v : SectionView) (a b : Bool) (x : Section) :
    (decideClosing k v a b x).raisesOfSections := by
  unfold decideClosing
  (repeat' split) <;> simp

@[simp] theorem decideReleasing_raises (k : Fin 4) (a b : Bool) (x : Section) :
    (decideReleasing k a b x).raisesOfSections := by
  unfold decideReleasing
  (repeat' split) <;> simp

@[simp] theorem decideFault_raises (k : Fin 4) (a b c : Bool) (x : Section) :
    (decideFault k a b c x).raisesOfSections := by
  unfold decideFault
  (repeat' split) <;> simp

/-- The decision of R84 raises alerts of sections alone. -/
theorem decideByState_raises (k : Fin 4) (v : SectionView) (n : ConfirmNews) (x : Section) :
    (decideByState k v n x).raisesOfSections := by
  unfold decideByState
  (repeat' split) <;> simp

/-- A section's frame raises alerts of sections alone (R108). -/
theorem sectionFrame_raises (k : Fin 4) (v : SectionView) (x : Section) :
    (sectionFrame k v x).raisesOfSections := by
  unfold sectionFrame
  exact decideByState_raises k v _ _

/-! ### Alerts through the stages of a frame -/

/-- The tracker raises TRACKER_UNLOCK alone (R27). -/
theorem alerts_unlockAlert {k : AlertKind} (h : k ≠ .trackerUnlock) (a b : LockState) (s : State) :
    (unlockAlert a b s).management.alerts.get k = s.management.alerts.get k := by
  unfold unlockAlert
  split
  · exact alerts_raise_of_ne s (Ne.symm h) _
  · rfl

/-- Tracker, store, detector and demand raise TRACKER_UNLOCK and STORE_LOW alone (R27, R140). -/
theorem alerts_judgeFrame {k : AlertKind} (htracker : k ≠ .trackerUnlock) (hstore : k ≠ .storeLow)
    (prev : Previous) (c : StepClass) (s : State) :
    (judgeFrame prev c s).management.alerts.get k = s.management.alerts.get k := by
  have hfirst : (trackerFirst prev c.gap s).management.alerts.get k = s.management.alerts.get k := by
    unfold trackerFirst
    split
    · exact alerts_unlockAlert htracker _ _ _
    · rfl
  have hlow : ∀ u : State,
      (storeWork u).management.alerts.get k = u.management.alerts.get k := by
    intro u
    unfold storeWork
    dsimp only
    (repeat' split)
    · exact alerts_raise_of_ne _ (Ne.symm hstore) _
    · rfl
    · rfl
  simp only [judgeFrame, demandWork_leaves, trackerSecond_leaves, detectorWork_leaves]
  exact (hlow _).trans hfirst

/-- Putting sections in place raises their own alerts alone (R108). -/
theorem alerts_placeSections {k : AlertKind} (h : k.ofSections = false) {m : Four Moved}
    (hm : ∀ i, (m.get i).raisesOfSections) (s : State) :
    (placeSections m s).management.alerts.get k = s.management.alerts.get k := by
  have hne : ∀ (i : Fin 4), ∀ a ∈ (m.get i).alerts, a.1 ≠ k := by
    intro i a ha hk
    have hsec := hm i a ha
    rw [hk, h] at hsec
    cases hsec
  refine alerts_raiseAll_of_ne (fun a ha => ?_) _
  simp only [List.mem_append] at ha
  obtain ((h0 | h1) | h2) | h3 := ha
  · exact hne 0 a h0
  · exact hne 1 a h1
  · exact hne 2 a h2
  · exact hne 3 a h3

/-- The section controller raises alerts of sections alone (R108). -/
theorem alerts_controllerWork {k : AlertKind} (h : k.ofSections = false) (s : State) :
    (controllerWork s).state.management.alerts.get k = s.management.alerts.get k := by
  have hplace : (placeSections (sectionFrames (raiseEpisode s))
      (raiseEpisode s)).management.alerts.get k = s.management.alerts.get k := by
    refine (alerts_placeSections h (fun i => ?_) _).trans (by simp)
    rw [sectionFrames, Four.get_build]
    exact sectionFrame_raises i _ _
  unfold controllerWork
  dsimp only
  split <;> exact hplace

/-- The record unit raises SAG_START and EPISODE_END alone (R149, R153). -/
theorem alerts_recordWork {k : AlertKind} (hstart : k ≠ .sagStart) (hend : k ≠ .episodeEnd)
    (os : Four (List EntryOutcome)) (ended : Bool) (s : State) :
    (recordWork os ended s).management.alerts.get k = s.management.alerts.get k := by
  have hopen : (if s.sagStarts then openNew s else s).management.alerts.get k =
      s.management.alerts.get k := by
    split
    · exact (alerts_raise_of_ne _ (Ne.symm hstart) _).trans (by simp)
    · rfl
  unfold recordWork
  dsimp only
  generalize (if s.sagStarts then openNew s else s) = opened at hopen ⊢
  (repeat' split)
  · exact (alerts_raise_of_ne _ (Ne.symm hend) _).trans (by simp [hopen])
  · simp [hopen]
  · simp [hopen]

/-- A deferred application raises COMMIT_DONE alone (R164). -/
theorem alerts_deferredApply {k : AlertKind} (h : k ≠ .commitDone) (s : State) :
    (deferredApply s).management.alerts.get k = s.management.alerts.get k := by
  unfold deferredApply
  split
  · exact (alerts_raise_of_ne _ (Ne.symm h) _).trans (by simp)
  · rfl
  · rfl

/-- An alert of a kind that the answer to a frame does not raise stands until the frame's out slot. -/
theorem alerts_beforeSlot {k : AlertKind} (hsec : k.ofSections = false) (hstart : k ≠ .sagStart)
    (hend : k ≠ .episodeEnd) (hdone : k ≠ .commitDone) (s : State) :
    (beforeSlot s).management.alerts.get k = s.management.alerts.get k := by
  have hrecord : ∀ (os : Four (List EntryOutcome)) (ended : Bool) (ws : List Word),
      (recordWork os ended ((injectionWork (controllerWork s).state).send ws)).management.alerts.get k =
        s.management.alerts.get k := by
    intro os ended ws
    rw [alerts_recordWork hstart hend, management_send, ← alerts_controllerWork hsec s]
    simp
  unfold beforeSlot
  dsimp only
  split
  · rw [alerts_deferredApply hdone, hrecord]
  · exact hrecord _ _ _

/-- The link interface reports a break with the gap seen (R2, R3). -/
theorem alerts_measureFrame_of_break {c : StepClass} (h : c.kind = .brk) (f : SampleFrame) (s : State) :
    (measureFrame c f s).management.alerts.get .measurementBreak =
      some (payload1 (gapSeen f.seq s.link.lastSeq)) := by
  simp [measureFrame, linkWork, h, Management.raised]

/-- MEASUREMENT_BREAK stands when the out slot of a break frame is filled. -/
theorem alerts_atSlot_of_break {c : StepClass} (h : c.kind = .brk) (f : SampleFrame) (s : State) :
    (atSlot c f s).management.alerts.get .measurementBreak =
      some ⟨f.seq - s.link.lastSeq - 1, 0⟩ := by
  rw [atSlot, alerts_beforeSlot rfl (by decide) (by decide) (by decide), judged,
    alerts_judgeFrame (by decide) (by decide), measured, alerts_measureFrame_of_break h,
    payload1, gapSeen, Word.ofNat, BitVec.ofNat_toNat, BitVec.setWidth_eq, link_begin]

/-- Settles O7: a break leaves one value in each window and its alert is reported; in any other frame
a level needs 16 values with the gap frames and the frame's own. -/
theorem breakAndWindowRefill : Obligations.BreakAndWindowRefill := by
  intro c f s hacc
  have hlevel := levels_acceptedFrame c f s
  have hwindow := window_acceptedFrame c f s
  refine ⟨fun hk => ?_, fun hk hheld => ?_⟩
  · have hbreak : ∀ i : Site,
        ((fillOutSlot (atSlot c f s)).front.window i).values.length = 1 ∧
        (fillOutSlot (atSlot c f s)).levels.at i = none := by
      intro i
      rw [hlevel, hwindow, window_windowed_of_break hk]
      exact ⟨rfl, rfl⟩
    exact ⟨_, exec_sampleFrame_of_accepted hacc, fun p => hbreak (.supply p),
      fun k p => hbreak (.load k p), fillOutSlot_reports (alerts_atSlot_of_break hk f s)⟩
  · obtain ⟨held, hheld⟩ := Option.isSome_iff_exists.1 hheld
    have hrefill : ∀ i : Site, ((fillOutSlot (atSlot c f s)).levels.at i).isSome = true ↔
        16 ≤ (s.front.window i).values.length + c.gap + 1 := by
      intro i
      rw [hlevel, level_isSome_iff, hwindow, window_windowed hk hheld, enterAll_min]
      simp [Nat.add_assoc]
    exact ⟨_, exec_sampleFrame_of_accepted hacc, fun p => hrefill (.supply p),
      fun k p => hrefill (.load k p)⟩

end Sys2Proof.Machine
end

section
/-! PROOFS. The two resets: the power-on reset with the reset line, and the restart by request. -/

namespace Sys2Proof.Machine

/-! ### Power-on reset (R5) -/

/-- Every section at a power-on reset (R110). -/
theorem sec_reset (k : Fin 4) : State.reset.sec k = Section.reset := Four.get_all _ k

/-- The laws that every step keeps hold of the reset state. -/
theorem reset_lawful :
    windowsLawful State.reset = true ∧ loaderLawful State.reset = true ∧
    recordsLawful State.reset = true ∧ openExactlyInEpisode State.reset = true ∧
    haltedLawful State.reset = true ∧ unconfiguredLawful State.reset = true ∧
    slotLawful State.reset = true ∧ episodeLawful State.reset = true ∧
    tablesLawful State.reset = true ∧ storeLawful State.reset = true ∧
    rangesLawful State.reset = true := by decide

/-- Under an asserted reset line a SAMPLE frame is discarded (R5). -/
theorem sampleArrives_of_resetLine {s : State} (h : s.resetLine = true) (f : SampleFrame) :
    sampleArrives f s = s := by
  simp [sampleArrives, h]

/-- Under an asserted reset line the silence timer does not expire (R5). -/
theorem silenceExpires_of_resetLine {s : State} (h : s.resetLine = true) : silenceExpires s = s := by
  simp [silenceExpires, h]

/-- Under an asserted reset line a command that is none of the line's own changes nothing but the Out port
and the MNT pin (R5, log 3, log 5). -/
theorem exec_of_resetLine {c : Instr} {s : State} (hline : s.resetLine = true)
    (hc : isResetCommand c = false) : exec c s = .next (s.arrived c) := by
  have harrived : (s.arrived c).resetLine = true := hline
  obtain ⟨t, ht, hreaction⟩ := exec_reaction c s
  rw [ht]
  cases hreaction with
  | discarded => rfl
  | sample f => rw [sampleArrives_of_resetLine harrived f]
  | silence => rw [silenceExpires_of_resetLine harrived]
  | request r => rw [serve_of_resetLine r _ harrived]
  | powerOn line h =>
    subst h
    cases hc
  | lineRelease h =>
    subst h
    cases hc

/-- Settles O2: the reset values block by block, the laws at reset, and the commands around the reset
line. -/
theorem powerOnReset : Obligations.PowerOnReset := by
  refine ⟨⟨rfl, ?front, rfl, ?detector, ?demand, ?controller, ?injection, ?store, rfl, ?loader,
    ?management⟩, reset_lawful, fun _ _ => rfl, fun _ => rfl, fun c s => exec_of_resetLine⟩
  case front =>
    exact ⟨rfl, rfl, fun k => Four.get_all _ k, fun p => Phases.get_all _ p,
      fun k p => (congrArg (Phases.get · p) (Four.get_all _ k)).trans (Phases.get_all _ p)⟩
  case detector => exact ⟨rfl, rfl, rfl, rfl, rfl, rfl, rfl, rfl, rfl, rfl⟩
  case demand => exact fun k => Four.get_all _ k
  case controller =>
    refine ⟨rfl, rfl, fun k => ?_⟩
    rw [sec_reset]
    exact ⟨rfl, rfl, rfl, rfl, rfl, rfl, rfl, rfl, rfl, rfl, rfl, rfl, rfl⟩
  case injection => exact fun k => Four.get_all _ k
  case store => exact ⟨rfl, rfl, rfl, fun c => ⟨Four.get_all _ c, Four.get_all _ c⟩⟩
  case loader => exact ⟨rfl, rfl, rfl, fun t => ⟨Tables.get_all _ t, Tables.get_all _ t⟩⟩
  case management =>
    exact ⟨rfl, rfl, rfl, fun a => ⟨PerKind.get_all _ a, PerKind.get_all _ a⟩⟩

/-! ### Closing the OPEN record (R153) -/

/-- Closing the OPEN record touches the newest record alone. -/
theorem records_closeRecord_dropLast (cause : EndCause) (s : State) :
    (closeRecord cause s).records.list.dropLast = s.records.list.dropLast :=
  updateOpen_dropLast _ _

/-- With no OPEN record closing does nothing. -/
theorem closeRecord_of_none {s : State} (h : openRecord s.records.list = none) (cause : EndCause) :
    (closeRecord cause s).records = s.records := by
  simp [closeRecord, State.updateOpenRecord, updateOpen_of_none h]

/-- The OPEN record once it is closed is the newest (R153). -/
theorem closeRecord_getLast {s : State} {r : Record} (h : openRecord s.records.list = some r)
    (cause : EndCause) :
    (closeRecord cause s).records.list.getLast? = some (r.closed cause s.frameNumber) :=
  updateOpen_getLast h

/-! ### A section at a restart (R81) -/

/-- A CLOSE confirm by request moves no mark of a fault and no count. -/
theorem closeByRequest_keeps (x : Section) :
    x.closeByRequest.faultCause = x.faultCause ∧ x.closeByRequest.closeSeen = x.closeSeen ∧
    x.closeByRequest.overCount = x.overCount := by
  unfold Section.closeByRequest Section.beginConfirmByRequest
  split <;> exact ⟨rfl, rfl, rfl⟩

/-- What a restart makes of a section in any state, and what it keeps. -/
theorem restarted_all (x : Section) :
    x.restarted.eligible = false ∧ x.restarted.pendingReq = .none ∧ x.restarted.overCount = 0 ∧
    x.restarted.hold = x.hold ∧ x.restarted.feedback = x.feedback ∧
    x.restarted.filterCount = x.filterCount ∧ x.restarted.faultCause = x.faultCause ∧
    x.restarted.closeSeen = x.closeSeen ∧ x.restarted.service = x.service ∧
    x.restarted.lastArm =
      (if x.pendingReq = .arm then .discardedConditions else x.lastArm) := by
  unfold Section.restarted
  dsimp only
  split <;> simp [closeByRequest_keeps, Section.dropPending]

/-- A section that carries load current goes to RELEASING with a CLOSE confirm. -/
theorem restarted_of_carrying {x : Section} (h : x.state.carrying = true) :
    x.restarted.state = .releasing ∧ x.restarted.lastLeave = .restart ∧
    x.restarted.confirm = .closing := by
  unfold Section.restarted
  dsimp only
  split <;> simp_all [SecState.carrying]

/-- An ARMED or WATCHING section goes to BYPASSED. -/
theorem restarted_of_waiting {x : Section} (h : x.state = .armed ∨ x.state = .watching) :
    x.restarted.state = .bypassed ∧ x.restarted.lastLeave = .restart := by
  rcases h with h | h <;> simp [Section.restarted, h]

/-- Every other section stays. -/
theorem restarted_of_other {x : Section}
    (h : x.state = .out ∨ x.state = .bypassed ∨ x.state = .releasing ∨ x.state = .fault) :
    x.restarted.state = x.state ∧ x.restarted.lastLeave = x.lastLeave ∧
    x.restarted.confirm = x.confirm ∧ x.restarted.confirmTimer = x.confirmTimer := by
  rcases h with h | h | h | h <;> simp [Section.restarted, Section.dropPending, h]

/-! ### The controller at a restart (R81, R107, R110) -/

/-- The run state is HALTED and the signal down. -/
theorem controller_restarted (c : Controller) :
    c.restarted.run = .halted ∧ c.restarted.episode = false := by
  unfold Controller.restarted
  dsimp only
  split
  · exact ⟨rfl, rfl⟩
  · rename_i hdown
    exact ⟨rfl, by simpa using hdown⟩

/-- Each section restarts, and its service level becomes FULL when the signal was up (R94). -/
theorem get_sections_restarted (c : Controller) (k : Fin 4) :
    c.restarted.sections.get k = { (c.sections.get k).restarted with
      service := if c.episode then .full else (c.sections.get k).service } := by
  have hservice : (c.sections.get k).restarted.service = (c.sections.get k).service := by
    simp [restarted_all]
  unfold Controller.restarted
  cases h : c.episode with
  | true => simp [Controller.lowered, fullService]
  | false => simp [← hservice]

/-- Clearing keeps an injection item's U_eff alone (R122). -/
theorem injection_cleared (x : Injection) :
    x.cleared = ⟨⟨0, 0, 0⟩, x.uEff, ⟨.none, .none, .none⟩, false, 0⟩ := rfl

/-- Settles O43: the request's effect block by block. -/
theorem restartEffects : Obligations.RestartEffects := by
  intro s hslot
  have hexec : exec .restart s =
      .next (acceptRequest (Request.plain 9 0 0 0) restartEffect s.begin) :=
    congrArg Host.Outcome.next (serve_of_slotOpen restartEffect (plain_data_length _ _ _ _) hslot)
  refine ⟨_, hexec, rfl, rfl, rfl, rfl, rfl, rfl, rfl, rfl, rfl, rfl,
    (controller_restarted s.controller).1, (controller_restarted s.controller).2, fun k => ?_,
    fun k => Four.get_map _ _ k, rfl, records_closeRecord_dropLast _ _,
    fun hnone => closeRecord_of_none hnone _, fun r hr => closeRecord_getLast hr _, rfl, rfl⟩
  have hsec : (acceptRequest (Request.plain 9 0 0 0) restartEffect s.begin).sec k =
      { (s.sec k).restarted with
        service := if s.controller.episode then .full else (s.sec k).service } :=
    get_sections_restarted s.controller k
  obtain ⟨heligible, hpending, hover, hhold, hfeedback, hfilter, hcause, hseen, -, harm⟩ :=
    restarted_all (s.sec k)
  rw [hsec]
  exact ⟨heligible, hpending, hover, hhold, hfeedback, hfilter, hcause, hseen, rfl, harm,
    restarted_of_carrying, restarted_of_waiting, restarted_of_other⟩

end Sys2Proof.Machine
end

section
/-! PROOFS. What the content and cross-table tests require of an image (R162). -/

namespace Sys2Proof.Machine

/-! ### Ranges of fields -/

/-- A test of all four sections or classes is a test of each. -/
theorem four_all_iff (p : Fin 4 → Bool) : four.all p = true ↔ ∀ k, p k = true := by
  have hmem : ∀ k : Fin 4, k ∈ four := by decide
  rw [List.all_eq_true]
  exact ⟨fun h k => h k (hmem k), fun h k _ => h k⟩

/-- A field lies within bounds. -/
theorem fieldWithin_iff (image : List Word) (i lo hi : Nat) :
    fieldWithin image i lo hi = true ↔ lo ≤ fieldOf image i ∧ fieldOf image i ≤ hi := by
  simp [fieldWithin]

/-- R40. -/
theorem supplyContent_iff (image : List Word) : supplyContent image = true ↔
    fieldOf image 0 ≤ 1 ∧ 50 ≤ fieldOf image 1 ∧ fieldOf image 1 ≤ 500 ∧ 1 ≤ fieldOf image 2 ∧
    fieldOf image 2 ≤ 8 ∧ 500 ≤ fieldOf image 3 ∧ fieldOf image 3 ≤ 980 ∧
    fieldOf image 3 + 10 ≤ fieldOf image 4 ∧ fieldOf image 4 ≤ 1000 ∧ 1 ≤ fieldOf image 5 ∧
    fieldOf image 5 ≤ 32 ∧ 1 ≤ fieldOf image 6 ∧ fieldOf image 6 ≤ 64 := by
  simp only [supplyContent, Bool.and_eq_true, fieldWithin_iff, Nat.zero_le, true_and, and_assoc]

/-- R77. -/
theorem sectionContent_iff (image : List Word) : sectionContent image = true ↔ ∀ k : Fin 4,
    let e (j : Nat) : Nat := fieldOf image (12 * k.val + j)
    e 0 ≤ 1 ∧ e 1 ≤ 3 ∧ e 2 ≤ 1 ∧ 900 ≤ e 3 ∧ e 3 ≤ 1050 ∧ 100 ≤ e 4 ∧ e 4 ≤ 800 ∧
    1000 ≤ e 5 ∧ e 5 ≤ 3500 ∧ e 6 ≤ 7 ∧ e 7 ≤ 200 ∧ 1 ≤ e 8 ∧ e 8 ≤ 64 ∧ 1 ≤ e 9 ∧
    e 9 ≤ 64 ∧ 1 ≤ e 10 ∧ e 10 ≤ 8 ∧ e 11 ≤ 1 := by
  simp only [sectionContent, four_all_iff, sectionEntryContent, Bool.and_eq_true, fieldWithin_iff,
    Nat.zero_le, true_and, and_assoc, Nat.add_zero]

/-- R129. -/
theorem storeContent_iff (image : List Word) : storeContent image = true ↔
    300 ≤ fieldOf image 0 ∧ fieldOf image 0 ≤ 900 ∧ 10 ≤ fieldOf image 1 ∧ fieldOf image 1 ≤ 200 ∧
    (∀ c : Fin 4, fieldOf image (2 + c.val) ≤ 1000 ∧ fieldOf image (6 + c.val) ≤ 1000 ∧
      fieldOf image (6 + c.val) ≤ fieldOf image (2 + c.val)) ∧
    fieldOf image 2 ≤ fieldOf image 3 ∧ fieldOf image 3 ≤ fieldOf image 4 ∧
    fieldOf image 4 ≤ fieldOf image 5 ∧ fieldOf image 6 ≤ fieldOf image 7 ∧
    fieldOf image 7 ≤ fieldOf image 8 ∧ fieldOf image 8 ≤ fieldOf image 9 := by
  simp only [storeContent, Bool.and_eq_true, fieldWithin_iff, four_all_iff, decide_eq_true_eq,
    and_assoc]
  rfl

/-- R19. -/
theorem referenceContent_iff (image : List Word) : referenceContent image = true ↔
    4 ≤ fieldOf image 0 ∧ fieldOf image 0 ≤ 40 ∧ 128 ≤ fieldOf image 1 ∧ fieldOf image 1 ≤ 2048 ∧
    2 ≤ fieldOf image 2 ∧ fieldOf image 2 ≤ 8 ∧ 200 ≤ fieldOf image 3 ∧ fieldOf image 3 ≤ 800 ∧
    1 ≤ fieldOf image 4 ∧ fieldOf image 4 ≤ 16 ∧ 1 ≤ fieldOf image 5 ∧ fieldOf image 5 ≤ 256 ∧
    4 ≤ fieldOf image 6 ∧ fieldOf image 6 ≤ 255 ∧ 200 ≤ fieldOf image 7 ∧
    fieldOf image 7 ≤ 2000 := by
  simp only [referenceContent, Bool.and_eq_true, fieldWithin_iff, and_assoc]

/-! ### The walk of a Curve image (R62) -/

/-- The words of a curve's steps in walk order. -/
def stepsWords (steps : List (Nat × Nat)) : List Word :=
  steps.flatMap fun st => [Word.ofNat st.1, Word.ofNat st.2]

@[simp] theorem stepsWords_cons (st : Nat × Nat) (steps : List (Nat × Nat)) :
    stepsWords (st :: steps) = Word.ofNat st.1 :: Word.ofNat st.2 :: stepsWords steps := rfl

/-- The words of a curve: its two header items and those of its steps. -/
theorem Curve.words_eq (c : Curve) :
    c.words = Word.ofNat c.steps.length :: Word.ofNat c.final :: stepsWords c.steps := rfl

/-- The word of a word's number is the word. -/
theorem ofNat_toNat_word (w : Word) : Word.ofNat w.toNat = w := by
  rw [Word.ofNat, BitVec.ofNat_toNat, BitVec.setWidth_eq]

/-- A number that fits a word is the number of its word. -/
theorem toNat_ofNat_word {n : Nat} (h : n < 65536) : (Word.ofNat n).toNat = n := by
  rw [Word.ofNat, BitVec.toNat_ofNat]
  exact Nat.mod_eq_of_lt h

/-- Steps that have been read are as many as asked for, and their words stood in front. -/
theorem readSteps_eq_some {n : Nat} {ws rest : List Word} {steps : List (Nat × Nat)}
    (h : readSteps n ws = some (steps, rest)) :
    steps.length = n ∧ ws = stepsWords steps ++ rest ∧ ∀ st ∈ steps, st.1 ≤ 65535 := by
  induction n generalizing ws steps with
  | zero =>
    cases h
    exact ⟨rfl, rfl, fun _ hst => nomatch hst⟩
  | succ n ih =>
    match ws, h with
    | untl :: level :: ws, h =>
      unfold readSteps at h
      split at h
      · rename_i tail left htail
        cases h
        obtain ⟨hlen, hws, hle⟩ := ih htail
        refine ⟨by rw [List.length_cons, hlen], ?_, ?_⟩
        · simp [hws]
        · rintro st (_ | ⟨_, hst⟩)
          · exact Nat.le_of_lt_succ untl.isLt
          · exact hle st hst
      · cases h

/-- Steps whose items fit a word are read back from their words. -/
theorem readSteps_stepsWords {steps : List (Nat × Nat)}
    (h : ∀ st ∈ steps, st.1 < 65536 ∧ st.2 < 65536) (rest : List Word) :
    readSteps steps.length (stepsWords steps ++ rest) = some (steps, rest) := by
  induction steps with
  | nil => rfl
  | cons st steps ih =>
    obtain ⟨huntl, hlevel⟩ := h st List.mem_cons_self
    have htail := ih fun q hq => h q (List.mem_cons_of_mem st hq)
    simp only [stepsWords_cons, List.length_cons, List.cons_append, readSteps, htail,
      toNat_ofNat_word huntl, toNat_ofNat_word hlevel]

/-- A curve of one to eight steps whose items fit a word, as a walk can find it. -/
def Curve.walkable (c : Curve) : Prop :=
  (1 ≤ c.steps.length ∧ c.steps.length ≤ 8) ∧ ∀ st ∈ c.steps, st.1 ≤ 65535

/-- Curves that have been read are as many as asked for, walkable, and their words stood in front. -/
theorem readCurves_eq_some {n : Nat} {ws rest : List Word} {cs : List Curve}
    (h : readCurves n ws = some (cs, rest)) :
    cs.length = n ∧ ws = cs.flatMap Curve.words ++ rest ∧ ∀ c ∈ cs, c.walkable := by
  induction n generalizing ws cs with
  | zero =>
    cases h
    exact ⟨rfl, rfl, fun _ hc => nomatch hc⟩
  | succ n ih =>
    match ws, h with
    | count :: final :: ws, h =>
      unfold readCurves at h
      split at h
      · rename_i hcount
        split at h
        · rename_i steps afterSteps hsteps
          split at h
          · rename_i curves left hcurves
            cases h
            obtain ⟨hsl, hsw, hsle⟩ := readSteps_eq_some hsteps
            obtain ⟨hlen, hws, hwalk⟩ := ih hcurves
            refine ⟨by rw [List.length_cons, hlen], ?_, ?_⟩
            · simp [hsw, hws, Curve.words_eq, hsl]
            · rintro c (_ | ⟨_, hc⟩)
              · exact ⟨hsl ▸ hcount, hsle⟩
              · exact hwalk c hc
          · cases h
        · cases h
      · cases h

/-- Curves whose items fit a word are read back from their words. -/
theorem readCurves_words {cs : List Curve}
    (h : ∀ c ∈ cs, (1 ≤ c.steps.length ∧ c.steps.length ≤ 8) ∧ c.final < 65536 ∧
      ∀ st ∈ c.steps, st.1 < 65536 ∧ st.2 < 65536) (rest : List Word) :
    readCurves cs.length (cs.flatMap Curve.words ++ rest) = some (cs, rest) := by
  induction cs with
  | nil => rfl
  | cons c cs ih =>
    obtain ⟨hcount, hfinal, hitems⟩ := h c List.mem_cons_self
    have htail := ih fun q hq => h q (List.mem_cons_of_mem c hq)
    have hlen : (Word.ofNat c.steps.length).toNat = c.steps.length := toNat_ofNat_word (by omega)
    simp only [List.flatMap_cons, Curve.words_eq, List.length_cons, List.cons_append,
      List.append_assoc, readCurves, hlen, hcount, and_self, if_true, readSteps_stepsWords hitems,
      htail, toNat_ofNat_word hfinal]

/-- A walked image is the image of its curves. -/
theorem walkCurves_eq_some {image : List Word} {cs : List Curve} (h : walkCurves image = some cs) :
    image = curveImage cs ∧ (1 ≤ cs.length ∧ cs.length ≤ 8) ∧ ∀ c ∈ cs, c.walkable := by
  match image, h with
  | count :: ws, h =>
    simp only [walkCurves] at h
    split at h
    · rename_i hcount
      split at h
      · rename_i curves hcurves
        cases h
        obtain ⟨hlen, hws, hwalk⟩ := readCurves_eq_some hcurves
        exact ⟨by rw [hws, List.append_nil, curveImage, hlen, ofNat_toNat_word], hlen ▸ hcount, hwalk⟩
      · cases h
    · cases h

/-! ### Content of a Curve image (R63) -/

/-- What the content test asks of a curve's steps after a step (untl, level): the bounds for each of
them, and their order. -/
theorem stepsContent_iff (untl level final : Nat) (steps : List (Nat × Nat)) :
    stepsContent untl level final steps = true ↔
      level ≤ final ∧ (∀ st ∈ steps, untl < st.1 ∧ level ≤ st.2 ∧ st.2 ≤ 1000 ∧ st.2 ≤ final) ∧
        steps.Pairwise fun a b => a.1 < b.1 ∧ a.2 ≤ b.2 := by
  induction steps generalizing untl level with
  | nil => simp [stepsContent]
  | cons st steps ih =>
    simp only [stepsContent, Bool.and_eq_true, decide_eq_true_eq, ih, List.pairwise_cons,
      List.forall_mem_cons]
    constructor
    · rintro ⟨⟨⟨hu, hl⟩, hmax⟩, hfinal, hrest, horder⟩
      refine ⟨by omega, ⟨⟨hu, hl, hmax, hfinal⟩, fun q hq => ?_⟩, fun q hq => ?_, horder⟩
      · have := hrest q hq
        omega
      · have := hrest q hq
        omega
    · rintro ⟨-, ⟨⟨hu, hl, hmax, hfinal⟩, hrest⟩, hnext, horder⟩
      refine ⟨⟨⟨hu, hl⟩, hmax⟩, hfinal, fun q hq => ?_, horder⟩
      have hbound := hrest q hq
      have hstep := hnext q hq
      omega

/-- What the content test asks of a curve (R63). -/
theorem curveContent_iff (c : Curve) : curveContent c = true ↔
    c.final ≤ 1000 ∧ (∀ st ∈ c.steps, 1 ≤ st.1 ∧ st.2 ≤ 1000 ∧ st.2 ≤ c.final) ∧
      c.steps.Pairwise fun a b => a.1 < b.1 ∧ a.2 ≤ b.2 := by
  simp [curveContent, stepsContent_iff, Nat.succ_le_iff]

/-- A Curve image with valid content is the image of allowed curves (R62, R63). -/
theorem curvesContent_walk {image : List Word} (h : curvesContent image = true) :
    ∃ cs, walkCurves image = some cs ∧ image = curveImage cs ∧ curvesAllowed cs := by
  unfold curvesContent at h
  split at h
  · rename_i cs hwalk
    obtain ⟨himage, ⟨hmin, hmax⟩, hwalkable⟩ := walkCurves_eq_some hwalk
    refine ⟨cs, hwalk, himage, hmin, hmax, fun c hc => ?_⟩
    obtain ⟨⟨hsmin, hsmax⟩, huntl⟩ := hwalkable c hc
    obtain ⟨hfinal, hsteps, horder⟩ := (curveContent_iff c).1 (List.all_eq_true.1 h c hc)
    refine ⟨hsmin, hsmax, hfinal, fun st hst => ?_, horder⟩
    obtain ⟨hpos, hlevel, hle⟩ := hsteps st hst
    exact ⟨hpos, huntl st hst, hlevel, hle⟩
  · cases h

/-- The image of allowed curves walks to them (R62). -/
theorem walkCurves_curveImage {cs : List Curve} (h : curvesAllowed cs) :
    walkCurves (curveImage cs) = some cs := by
  obtain ⟨hmin, hmax, hcurves⟩ := h
  have hread : readCurves cs.length (cs.flatMap Curve.words) = some (cs, []) := by
    rw [← List.append_nil (cs.flatMap Curve.words)]
    refine readCurves_words (fun c hc => ?_) []
    obtain ⟨hsmin, hsmax, hfinal, hsteps, -⟩ := hcurves c hc
    refine ⟨⟨hsmin, hsmax⟩, by omega, fun st hst => ?_⟩
    have := hsteps st hst
    omega
  have hlen : (Word.ofNat cs.length).toNat = cs.length := toNat_ofNat_word (by omega)
  simp only [curveImage, walkCurves, hlen, hmin, hmax, and_self, if_true, hread]

/-- The image of allowed curves has valid content (R63). -/
theorem curvesContent_curveImage {cs : List Curve} (h : curvesAllowed cs) :
    curvesContent (curveImage cs) = true := by
  simp only [curvesContent, walkCurves_curveImage h, List.all_eq_true]
  intro c hc
  obtain ⟨-, -, hcurves⟩ := h
  obtain ⟨-, -, hfinal, hsteps, horder⟩ := hcurves c hc
  refine (curveContent_iff c).2 ⟨hfinal, fun st hst => ?_, horder⟩
  obtain ⟨hpos, -, hlevel, hle⟩ := hsteps st hst
  exact ⟨hpos, hlevel, hle⟩

/-! ### The cross-table test (R65, R77) -/

/-- Every section names a curve below the count. -/
theorem curvesNamedBelow_iff (count : Nat) (secs : List Word) :
    curvesNamedBelow count secs = true ↔ ∀ k : Fin 4, fieldOf secs (12 * k.val + 6) < count := by
  simp only [curvesNamedBelow, four_all_iff, decide_eq_true_eq]

/-- The cross-table test of a Section image asks about the Curve Table in use (R77). -/
theorem crossValid_sections_iff (s : State) (image : List Word) :
    crossValid s .sections image = true ↔ ∀ curves, s.image .curves = some curves →
      curvesNamedBelow (curveCount curves) image = true := by
  cases h : s.image .curves <;> simp [crossValid, h]

/-- The cross-table test of a Curve image asks about the Section Table in use (R65). -/
theorem crossValid_curves_iff (s : State) (image : List Word) :
    crossValid s .curves image = true ↔ ∀ secs, s.image .sections = some secs →
      curvesNamedBelow (curveCount image) secs = true := by
  cases h : s.image .sections <;> simp [crossValid, h]

/-- Settles O47: each table's tests, field by field. -/
theorem tableImageTests : Obligations.TableImageTests := by
  refine ⟨fun image => ⟨rfl, supplyContent_iff image, sectionContent_iff image,
      storeContent_iff image, referenceContent_iff image⟩,
    fun image => curvesContent_walk,
    fun cs h => ⟨curvesContent_curveImage h, walkCurves_curveImage h⟩, fun s image => ⟨?_, ?_, ?_⟩⟩
  · intro t ht
    simp only [List.mem_cons, List.not_mem_nil, or_false] at ht
    rcases ht with rfl | rfl | rfl | rfl <;> rfl
  · rw [crossValid_sections_iff]
    exact forall_congr' fun _ => imp_congr_right fun _ => curvesNamedBelow_iff _ _
  · rw [crossValid_curves_iff]
    exact forall_congr' fun _ => imp_congr_right fun _ => curvesNamedBelow_iff _ _

end Sys2Proof.Machine
end

section
/-! PROOFS. The application of a table: what its owner does, and what stands (R163). -/

namespace Sys2Proof.Machine

/-! ### What the reading of tables depends on -/

/-- Fields, validity and configuration are read from the tables in use alone. -/
theorem configured_inService_congr {s t : State} (h : t.loader.tables = s.loader.tables) :
    t.configured = s.configured ∧ ∀ k, t.inService k = s.inService k := by
  have himage : t.image = s.image := by
    funext u
    rw [State.image, State.image, h]
  have hvalid : t.valid = s.valid := by
    funext u
    rw [State.valid, State.valid, himage]
  refine ⟨by rw [State.configured, State.configured, hvalid], fun k => ?_⟩
  rw [State.inService, State.inService, State.secField, State.secField, State.field, State.field, himage]

/-! ### The owner's reaction, block by block -/

/-- The detector reacts to its own table alone (R59). -/
theorem detector_reactTo (t : TableId) (before : Bool) (image : List Word) (s : State) :
    (reactTo t before image s).detector =
      if t = .supply then s.detector.retabled else s.detector := by
  cases t <;> simp [reactTo]

/-- The store allocator reacts to its own table alone (R130, R131). -/
theorem store_reactTo (t : TableId) (before : Bool) (image : List Word) (s : State) :
    (reactTo t before image s).store =
      if t = .store then { s.store with levels := some (deriveLevels image) } else s.store := by
  cases t <;> simp [reactTo]

/-- The tracker reacts to its own table alone (R36). -/
theorem tracker_reactTo (t : TableId) (before : Bool) (image : List Word) (s : State) :
    (reactTo t before image s).tracker =
      if t = .reference then s.tracker.retabled s.span else s.tracker := by
  cases t <;> simp [reactTo]

/-- A section joins when the engine has become configured, it is in service, and it is OUT (R78). -/
theorem sec_joinSections (before : Bool) (s : State) (k : Fin 4) :
    (joinSections before s).sec k =
      if before = false ∧ s.configured = true ∧ s.inService k = true ∧ (s.sec k).state = .out
      then { s.sec k with state := .bypassed } else s.sec k := by
  unfold joinSections
  by_cases hjoin : (!before && s.configured) = true
  · rw [if_pos hjoin]
    simp only [Bool.and_eq_true, Bool.not_eq_true'] at hjoin
    obtain ⟨hbefore, hconf⟩ := hjoin
    have hsec : State.sec (s.withSections (Four.build fun k =>
        (s.controller.sections.get k).joined (s.inService k))) k = (s.sec k).joined (s.inService k) :=
      Four.get_build _ k
    rw [hsec]
    simp [Section.joined, hbefore, hconf]
  · rw [if_neg hjoin, if_neg]
    rintro ⟨hbefore, hconf, -⟩
    exact hjoin (by rw [hbefore, hconf]; rfl)

/-- A table other than the Section Table lets sections join (R78). -/
theorem sec_reactTo_of_ne {t : TableId} (h : t ≠ .sections) (before : Bool) (image : List Word)
    (s : State) (k : Fin 4) : (reactTo t before image s).sec k =
      if before = false ∧ s.configured = true ∧ s.inService k = true ∧ (s.sec k).state = .out
      then { s.sec k with state := .bypassed } else s.sec k := by
  cases t with
  | sections => exact absurd rfl h
  | calibration | supply | curves | store | reference => exact sec_joinSections before _ k

/-- The Section Table puts each section in or out of service (R78). -/
theorem sec_reactTo_sections (before : Bool) (image : List Word) (s : State) (k : Fin 4) :
    (reactTo .sections before image s).sec k = (s.sec k).retabled s.configured (s.inService k) :=
  Four.get_build _ k

/-! ### A section under a new Section Table (R78) -/

/-- While the engine is not configured a section stands. -/
theorem retabled_of_unconfigured (inService : Bool) (x : Section) :
    x.retabled false inService = x := by
  cases inService <;> rfl

/-- A section in service leaves OUT, and otherwise stands. -/
theorem retabled_of_inService (x : Section) :
    x.retabled true true = if x.state = .out then { x with state := .bypassed } else x := by
  unfold Section.retabled
  split <;> simp_all

/-- A section out of service goes to OUT with leave cause TABLE, and keeps its operator hold and its
accepted feedback; one that is OUT stands. -/
theorem retabled_of_outOfService (x : Section) :
    (x.retabled true false).state = .out ∧ (x.state = .out → x.retabled true false = x) ∧
    (x.state ≠ .out → (x.retabled true false).lastLeave = .table ∧
      (x.retabled true false).confirm = .none ∧ (x.retabled true false).pendingReq = .none ∧
      (x.retabled true false).eligible = false ∧ (x.retabled true false).overCount = 0 ∧
      (x.retabled true false).faultCause = none ∧ (x.retabled true false).hold = x.hold ∧
      (x.retabled true false).feedback = x.feedback) := by
  have hother : x.state ≠ .out → x.retabled true false = x.toOut := by
    intro h
    unfold Section.retabled
    split <;> simp_all
  by_cases h : x.state = .out
  · have hstands : x.retabled true false = x := by simp [Section.retabled, h]
    rw [hstands]
    exact ⟨h, fun _ => rfl, fun hne => absurd h hne⟩
  · rw [hother h]
    exact ⟨rfl, fun ho => absurd ho h, fun _ => ⟨rfl, rfl, rfl, rfl, rfl, rfl, rfl, rfl⟩⟩

/-! ### A table applied at once -/

/-- The sections when a table other than the Section Table has been applied. -/
theorem sec_applyTable_of_ne {t : TableId} (h : t ≠ .sections) (image : List Word) (s : State)
    (k : Fin 4) : (applyTable t image s).sec k =
      if s.configured = false ∧ (applyTable t image s).configured = true ∧
        (applyTable t image s).inService k = true ∧ (s.sec k).state = .out
      then { s.sec k with state := .bypassed } else s.sec k := by
  have hread := configured_inService_congr (s := placeTable t image s) (t := applyTable t image s)
    (by simp [applyTable])
  rw [hread.1, hread.2 k]
  exact sec_reactTo_of_ne h s.configured image (placeTable t image s) k

/-- The sections when the Section Table has been applied. -/
theorem sec_applyTable_sections (image : List Word) (s : State) (k : Fin 4) :
    (applyTable .sections image s).sec k = (s.sec k).retabled
      (applyTable .sections image s).configured ((applyTable .sections image s).inService k) := by
  have hread := configured_inService_congr (s := placeTable .sections image s)
    (t := applyTable .sections image s) (by simp [applyTable])
  rw [hread.1, hread.2 k]
  exact sec_reactTo_sections s.configured image (placeTable .sections image s) k

/-- The tracker when a table has been applied: a Reference Table's span is its first word (R36). -/
theorem tracker_applyTable (t : TableId) (image : List Word) (s : State) :
    (applyTable t image s).tracker =
      if t = .reference then s.tracker.retabled (fieldOf image 0) else s.tracker := by
  rw [applyTable, tracker_reactTo]
  split
  · rename_i href
    subst href
    rfl
  · rfl

/-- What the allocator derives from a Store Table's words (R130). -/
theorem deriveLevels_items (image : List Word) :
    (deriveLevels image).vmin = fieldOf image 0 * 8192 / 1000 ∧
    ∀ c : Fin 4, (deriveLevels image).degrade.get c = fieldOf image (2 + c.val) ∧
      (deriveLevels image).release.get c = fieldOf image (6 + c.val) ∧
      (deriveLevels image).ready.get c = min (fieldOf image (6 + c.val) + fieldOf image 1) 1000 :=
  ⟨rfl, fun c => ⟨Four.get_build _ c, Four.get_build _ c, Four.get_build _ c⟩⟩

/-! ### A commit that is accepted (R161 to R163) -/

/-- The engine with a request in its slot. -/
def State.slotted (s : State) (r : Request) : State :=
  { s with management := { s.management with slot := some r } }

/-- The engine with an answer in its queue. -/
def State.queued (s : State) (parts : List AnswerPart) : State :=
  { s with management := { s.management with queue := parts } }

/-- An accepted request's effect is found in the slotted engine, and its answer queued (R171). -/
theorem acceptRequest_of_effect {r : Request} {effect : Effect} {s t : State} {reply : Reply}
    (h : effect (s.slotted r) = (t, reply)) :
    acceptRequest r effect s = t.queued (reply.parts r.code) := by
  change ((effect (s.slotted r)).1).queued ((effect (s.slotted r)).2.parts r.code) = _
  rw [h]

/-- A complete, valid image of an unlocked table is applied at once while the signal is down (R161 to
R163). -/
theorem commitTableEffect_of_accepted {t : TableId} {n : Nat} {table : Word} {s : State}
    (htable : table.toNat = t.number) (hload : s.loader.load = .opened t n)
    (hlock : s.loader.locks.get t = .unlocked) (hcomplete : stagingComplete n s.loader.staging = true)
    (hcontent : contentValid t (stagingImage n s.loader.staging) = true)
    (hcross : crossValid s t (stagingImage n s.loader.staging) = true)
    (hdown : s.controller.episode = false) :
    commitTableEffect table s =
      (applyTable t (stagingImage n s.loader.staging) (closeLoad s), Reply.code .ok) := by
  simp [commitTableEffect, judgeImage, placeImage, hload, htable, hlock, hcomplete, hcontent, hcross,
    hdown]

/-- What an accepted COMMIT_TABLE comes to: the image applied to the engine with the request in its slot
and its load closed, and the answer OK queued. -/
theorem exec_commitTable_of_accepted {t : TableId} {n : Nat} {table : Word} {s : State}
    (hslot : slotOpen s = true) (htable : table.toNat = t.number)
    (hload : s.loader.load = .opened t n) (hlock : s.loader.locks.get t = .unlocked)
    (hcomplete : stagingComplete n s.loader.staging = true)
    (hcontent : contentValid t (stagingImage n s.loader.staging) = true)
    (hcross : crossValid s t (stagingImage n s.loader.staging) = true)
    (hdown : s.controller.episode = false) :
    exec (.commitTable table) s = .next
      ((applyTable t (stagingImage n s.loader.staging)
        (closeLoad (s.begin.slotted (Request.plain 15 table 0 0)))).queued
          [⟨15, .ok, 1, 1, .words []⟩]) := by
  have heffect := commitTableEffect_of_accepted (s := s.begin.slotted (Request.plain 15 table 0 0))
    htable hload hlock hcomplete hcontent hcross hdown
  exact congrArg Host.Outcome.next
    ((serve_of_slotOpen (commitTableEffect table) (plain_data_length _ _ _ _) hslot).trans
      (acceptRequest_of_effect heffect))

/-- Settles O49: the commit applies the image, and each owner reacts as its own lemma says. -/
theorem tableReactions : Obligations.TableReactions := by
  intro t n table s hslot htable hload hlock hcomplete hcontent hcross hdown
  let image := stagingImage n s.loader.staging
  let base := closeLoad (s.begin.slotted (Request.plain 15 table 0 0))
  let after := (applyTable t image base).queued [⟨15, .ok, 1, 1, .words []⟩]
  have hexec : exec (.commitTable table) s = .next after :=
    exec_commitTable_of_accepted hslot htable hload hlock hcomplete hcontent hcross hdown
  have hdetector : after.detector = if t = .supply then s.detector.retabled else s.detector :=
    detector_reactTo t base.configured image (placeTable t image base)
  have hstore : after.store =
      if t = .store then { s.store with levels := some (deriveLevels image) } else s.store :=
    store_reactTo t base.configured image (placeTable t image base)
  have htracker : after.tracker =
      if t = .reference then s.tracker.retabled (fieldOf image 0) else s.tracker :=
    tracker_applyTable t image base
  obtain ⟨hfront, hrecords, hinjection, hdemand, hlink, hrun, hepisode⟩ :
      (applyTable t image base).front = base.front ∧
      (applyTable t image base).records = base.records ∧
      (applyTable t image base).injection = base.injection ∧
      (applyTable t image base).demand = base.demand ∧
      (applyTable t image base).link = base.link ∧
      (applyTable t image base).controller.run = base.controller.run ∧
      (applyTable t image base).controller.episode = base.controller.episode := by simp
  refine ⟨after, hexec, hfront, hrecords, hinjection, hdemand, hlink, hrun, hepisode.trans hdown,
    fun h => hdetector.trans (if_neg h), fun h => hstore.trans (if_neg h),
    fun h => htracker.trans (if_neg h), fun h => hdetector.trans (if_pos h), fun h => ?store,
    fun h => htracker.trans (if_pos h),
    fun k => ⟨fun h => sec_applyTable_of_ne h image base k, fun h => ?sections⟩⟩
  case store =>
    rw [hstore, if_pos h]
    exact ⟨rfl, rfl, rfl, rfl, _, rfl, deriveLevels_items image⟩
  case sections =>
    subst h
    have hsec : after.sec k = (s.sec k).retabled after.configured (after.inService k) :=
      sec_applyTable_sections image base k
    refine ⟨fun hconf => ?_, fun hconf hin => ?_, fun hconf hin => ?_⟩
    · rw [hsec, hconf, retabled_of_unconfigured]
    · rw [hsec, hconf, hin, retabled_of_inService]
    · rw [hsec, hconf, hin]
      exact retabled_of_outOfService (s.sec k)

end Sys2Proof.Machine
end

section
/-! PROOFS. The expiry of the silence timer (R7, R8). -/

namespace Sys2Proof.Machine

/-! ### When the timer expires -/

/-- An idle timer does not expire (R6). -/
theorem silenceExpires_of_idle {s : State} (h : s.link.timer = none) : silenceExpires s = s := by
  unfold silenceExpires
  rw [h]
  split <;> rfl

/-- A running timer expires by the run state (R7, R8). -/
theorem silenceExpires_of_timer {s : State} (hline : s.resetLine = false)
    (htimer : s.link.timer.isSome = true) :
    silenceExpires s = match s.controller.run with
      | .running => expiryRunning s
      | .halted => expiryHalted s := by
  obtain ⟨limit, hlimit⟩ := Option.isSome_iff_exists.1 htimer
  simp only [silenceExpires, hline, hlimit]
  rfl

/-! ### Tracker, detector and sections of an expiry -/

/-- The tracker unlocks and the live angle is in force (R37). -/
theorem silenced_tracker (t : Tracker) : t.silenced.lock = .unlocked ∧ t.silenced.ref = .tracking := by
  unfold Tracker.silenced
  dsimp only
  split
  · exact ⟨rfl, ‹_›⟩
  · exact ⟨rfl, rfl⟩

/-- An active section goes to BYPASSED with leave cause LINK_SILENT (R100). -/
theorem silenced_of_active {x : Section} (h : x.state.active = true) :
    x.silenced.state = .bypassed ∧ x.silenced.lastLeave = .linkSilent ∧ x.silenced.confirm = .none ∧
    x.silenced.eligible = if x.state = .releasing then x.eligible else true := by
  rw [Section.silenced, if_pos h]
  exact ⟨rfl, rfl, rfl, rfl⟩

/-- Every other section stands (R100). -/
theorem silenced_of_inactive {x : Section} (h : x.state.active = false) : x.silenced = x := by
  rw [Section.silenced, h]
  rfl

/-- The blocks at an expiry in RUNNING (R7, R37, R57, R100, R122). -/
theorem blocksSilenced_blocks (s : State) :
    (blocksSilenced s).link = { s.link with meas := .silent, timer := none } ∧
    (blocksSilenced s).tracker = s.tracker.silenced ∧
    (blocksSilenced s).detector = s.detector.silenced ∧
    (blocksSilenced s).controller.sections = s.controller.sections.map Section.silenced ∧
    (blocksSilenced s).injection = s.injection.map Injection.cleared := by
  have htracker : (trackerSilenced (linkSilenced s)).tracker = s.tracker.silenced := by
    simp [trackerSilenced]
  have hlink : (linkSilenced s).link = { s.link with meas := .silent, timer := none } := rfl
  unfold blocksSilenced
  simp [htracker, hlink]

/-! ### The OPEN record of an expiry (R151, R154) -/

/-- The OPEN record after an update that leaves it OPEN. -/
theorem openRecord_updateOpen {g : Record → Record} {rs : List Record} {r : Record}
    (h : openRecord rs = some r) (hg : (g r).isOpen = true) :
    openRecord (updateOpen g rs) = some (g r) :=
  openRecord_eq_some.2 ⟨updateOpen_getLast h, hg⟩

/-- Outcomes handed to a record change its entries alone (R151). -/
theorem foldl_handed (k : Fin 4) (os : List EntryOutcome) (r : Record) :
    ∃ es, os.foldl (fun r o => r.handed k o) r = { r with entries := es } := by
  induction os generalizing r with
  | nil => exact ⟨r.entries, rfl⟩
  | cons o os ih =>
    obtain ⟨es, hes⟩ := ih (r.handed k o)
    exact ⟨es, hes⟩

/-- Outcomes of one section change the entries of the OPEN record alone (R151). -/
theorem openRecord_handOutcomes {s : State} {r : Record} (h : openRecord s.records.list = some r)
    (k : Fin 4) (os : List EntryOutcome) :
    ∃ es, openRecord (handOutcomes k os s).records.list = some { r with entries := es } := by
  obtain ⟨es, hes⟩ := foldl_handed k os r
  have hopen : (os.foldl (fun r o => r.handed k o) r).isOpen = true := by
    rw [hes]
    exact (openRecord_eq_some.1 h).2
  exact ⟨es, hes ▸ openRecord_updateOpen h hopen⟩

/-- Outcomes of all sections change the entries of the OPEN record alone (R151). -/
theorem openRecord_handAll {s : State} {r : Record} (h : openRecord s.records.list = some r)
    (os : Four (List EntryOutcome)) :
    ∃ es, openRecord (handAll os s).records.list = some { r with entries := es } := by
  obtain ⟨_, h0⟩ := openRecord_handOutcomes h 0 os.i0
  obtain ⟨_, h1⟩ := openRecord_handOutcomes h0 1 os.i1
  obtain ⟨_, h2⟩ := openRecord_handOutcomes h1 2 os.i2
  exact openRecord_handOutcomes h2 3 os.i3

/-- The OPEN record at an expiry in RUNNING is closed with LINK_SILENT (R154). -/
theorem records_blocksSilenced {s : State} {r : Record} (h : openRecord s.records.list = some r) :
    ∃ es, (blocksSilenced s).records.list.getLast? =
      some ({ r with entries := es }.closed .linkSilent s.link.counter) := by
  have hbase : openRecord (trackerSilenced (linkSilenced s)).records.list = some r := by
    simpa using h
  obtain ⟨es, hes⟩ := openRecord_handAll hbase
    (silenceOutcomes (trackerSilenced (linkSilenced s)).controller.sections)
  have hclosed := closeRecord_getLast hes .linkSilent
  have hframe : (handAll (silenceOutcomes (trackerSilenced (linkSilenced s)).controller.sections)
      (trackerSilenced (linkSilenced s))).frameNumber = s.link.counter := by
    simp [State.frameNumber]
  rw [hframe] at hclosed
  exact ⟨es, hclosed⟩

/-! ### The signal lowered by an expiry (R94, R107, R164) -/

/-- The signal is down afterwards (R107). -/
theorem episode_lowerAndApply (s : State) : (lowerAndApply s).controller.episode = false := by
  unfold lowerAndApply
  split
  · simp
  · rename_i hdown
    simpa using hdown

/-- With no load PENDING lowering touches the section controller alone. -/
theorem lowerAndApply_of_noPending {s : State} (h : noPending s = true) :
    (lowerAndApply s).tracker = s.tracker ∧ ∀ k, (lowerAndApply s).sec k =
      { s.sec k with service := if s.controller.episode then .full else (s.sec k).service } := by
  unfold lowerAndApply
  split
  · have hsame : deferredApply { s with controller := s.controller.lowered } =
        { s with controller := s.controller.lowered } := deferredApply_of_noPending h
    rw [hsame]
    exact ⟨rfl, fun k => Four.get_map _ _ k⟩
  · exact ⟨rfl, fun k => rfl⟩

/-- A detector that is CLEAR stays CLEAR when a table is applied (R59). -/
theorem detector_state_lowerAndApply {s : State} (h : s.detector.state = .clear) :
    (lowerAndApply s).detector.state = .clear := by
  have happly : ∀ u : State, u.detector.state = .clear → (deferredApply u).detector.state = .clear := by
    intro u hu
    unfold deferredApply
    split
    · rw [detector_raise, applyTable, detector_reactTo]
      split <;> simp [Detector.retabled, hu]
    · exact hu
    · exact hu
  unfold lowerAndApply
  split
  · exact happly _ h
  · exact h

/-- Lowering raises COMMIT_DONE alone (R164). -/
theorem alerts_lowerAndApply {k : AlertKind} (h : k ≠ .commitDone) (s : State) :
    (lowerAndApply s).management.alerts.get k = s.management.alerts.get k := by
  unfold lowerAndApply
  split
  · exact alerts_deferredApply h _
  · rfl

/-! ### What an expiry in RUNNING leaves and sends -/

/-- The safe DRIVE frame and its out slot touch the Out port and the management unit alone. -/
theorem expiryRunning_blocks (s : State) :
    (expiryRunning s).link = (lowerAndApply (blocksSilenced s)).link ∧
    (expiryRunning s).tracker = (lowerAndApply (blocksSilenced s)).tracker ∧
    (expiryRunning s).detector = (lowerAndApply (blocksSilenced s)).detector ∧
    (expiryRunning s).controller = (lowerAndApply (blocksSilenced s)).controller ∧
    (expiryRunning s).injection = (lowerAndApply (blocksSilenced s)).injection ∧
    (expiryRunning s).records = (lowerAndApply (blocksSilenced s)).records := by
  unfold expiryRunning
  dsimp only
  split <;> simp

/-- An alert that stands when the signal has been lowered is reported by the expiry. -/
theorem reports_expiryRunning {s : State} {k : AlertKind} {p : Payload} (hk : k ≠ .commitDone)
    (h : (blocksSilenced s).management.alerts.get k = some p) :
    (expiryRunning s).reports k p = true := by
  have hstands := (alerts_lowerAndApply hk (blocksSilenced s)).trans h
  unfold expiryRunning
  dsimp only
  split
  · exact fillOutSlot_reports hstands
  · simp [State.reports, hstands]

/-- LINK_SILENT is raised (R7), and TRACKER_UNLOCK when the tracker was not UNLOCKED (R27, R37). -/
theorem alerts_blocksSilenced (s : State) :
    (blocksSilenced s).management.alerts.get .linkSilent = some noPayload ∧
    (s.tracker.lock ≠ .unlocked →
      (blocksSilenced s).management.alerts.get .trackerUnlock = some noPayload) := by
  refine ⟨by simp [blocksSilenced, Management.raised], fun hlock => ?_⟩
  have hraised : (trackerSilenced (linkSilenced s)).management.alerts.get .trackerUnlock =
      some noPayload := by
    simp [trackerSilenced, unlockAlert, hlock, Management.raised]
  refine (alerts_raise_of_ne _ (by decide) noPayload).trans ?_
  simpa using hraised

/-- The words of the safe DRIVE frame: kind 3 and origin SILENCE with the slot-free bit, the last sequence
number, and every item CLOSED, BLOCKED and 0 (R127, 11.2). -/
theorem safeDrive_words (s : State) : (safeDrive s).words =
    sealFrame ([if s.management.slot.isNone then 51 else 35, s.link.lastSeq]
      ++ [0, 0, 0, 0, 0, 0, 0, 0, 0, 0, 0, 0, 0, 0, 0, 0]) := by
  have hheader : headerWord 3 s.slotFree true = if s.management.slot.isNone then 51 else 35 := by
    unfold State.slotFree
    cases s.management.slot <;> rfl
  rw [← hheader]
  rfl

/-- What an expiry in RUNNING sends: nothing when no section was active, else the safe DRIVE frame and at
most one frame more (R127, R181). -/
theorem outPort_expiryRunning {s : State} (hempty : s.outPort = []) :
    (anyActive s.controller.sections = false → (expiryRunning s).outPort = []) ∧
    (anyActive s.controller.sections = true → (expiryRunning s).outPort.length ≤ 2 ∧
      (expiryRunning s).outPort.head? =
        some (safeDrive (lowerAndApply (blocksSilenced s))).words) := by
  have hbefore : (lowerAndApply (blocksSilenced s)).outPort = [] := by simp [hempty]
  unfold expiryRunning
  dsimp only
  refine ⟨fun h => ?_, fun h => ?_⟩
  · rw [h, if_neg Bool.false_ne_true, hbefore]
  · rw [if_pos h]
    rcases fillOutSlot_outPort ((lowerAndApply (blocksSilenced s)).send
        (safeDrive (lowerAndApply (blocksSilenced s))).words) with hout | ⟨ws, hout⟩ <;>
      simp [hout, hempty]

/-- The sections after an expiry in RUNNING with no load PENDING (R100). -/
theorem sec_expiryRunning {s : State} (h : noPending s = true) (k : Fin 4) :
    (expiryRunning s).sec k = { (s.sec k).silenced with
      service := if s.controller.episode then .full else (s.sec k).silenced.service } := by
  obtain ⟨-, -, -, hcontroller, -, -⟩ := expiryRunning_blocks s
  obtain ⟨-, -, -, hsections, -⟩ := blocksSilenced_blocks s
  have hload : noPending (blocksSilenced s) = true := by simpa [noPending] using h
  have hsec : (blocksSilenced s).sec k = (s.sec k).silenced := by
    rw [State.sec, hsections, Four.get_map, State.sec]
  have hepisode : (blocksSilenced s).controller.episode = s.controller.episode := by simp
  rw [State.sec, hcontroller, ← hsec, ← hepisode]
  exact (lowerAndApply_of_noPending hload).2 k

/-- Settles O36: the expiry in RUNNING block by block, in HALTED, and of an idle timer. -/
theorem silenceExpiry : Obligations.SilenceExpiry := by
  refine ⟨fun s hline htimer hrun => ?running, fun s hline htimer hrun => ?halted,
    fun s hidle => congrArg Host.Outcome.next (silenceExpires_of_idle (s := s.begin) hidle)⟩
  case halted =>
    refine congrArg Host.Outcome.next ((silenceExpires_of_timer (s := s.begin) hline htimer).trans ?_)
    rw [controller_begin, hrun]
    rfl
  case running =>
    have hexec : exec .silenceExpiry s = .next (expiryRunning s.begin) := by
      refine congrArg Host.Outcome.next ((silenceExpires_of_timer (s := s.begin) hline htimer).trans ?_)
      rw [controller_begin, hrun]
    obtain ⟨hlink, htracker, hdetector, hcontroller, hinjection, hrecords⟩ :=
      expiryRunning_blocks s.begin
    obtain ⟨hblink, hbtracker, hbdetector, hbsections, hbinjection⟩ := blocksSilenced_blocks s.begin
    obtain ⟨hsilent, hunlock⟩ := alerts_blocksSilenced s.begin
    obtain ⟨hquiet, hdrive⟩ := outPort_expiryRunning (outPort_begin s)
    refine ⟨_, hexec, ?link, by simp, by simp, by simp, ?live, ?held, ?ref, fun hpend => ?lock,
      fun hlock => reports_expiryRunning (by decide) (hunlock hlock), ?state, ?elapsed, ?involved,
      ?suspended, by simp [hrun], ?episode, fun hpend k => ?sections, fun k => ?injection, by simp,
      fun r hr => ?record, reports_expiryRunning (by decide) hsilent, hquiet, fun hact => ?drive⟩
    case link => rw [hlink]; simp [hblink]
    case live => rw [htracker]; simp [hbtracker]
    case held => rw [htracker]; simp [hbtracker]
    case ref => rw [htracker]; simp [hbtracker, silenced_tracker]
    case lock =>
      have hload : noPending (blocksSilenced s.begin) = true := by simpa [noPending] using hpend
      rw [htracker, (lowerAndApply_of_noPending hload).1, hbtracker]
      simp [silenced_tracker]
    case state =>
      rw [hdetector]
      exact detector_state_lowerAndApply (by rw [hbdetector]; rfl)
    case elapsed => rw [hdetector]; simp
    case involved => rw [hdetector]; simp
    case suspended => rw [hdetector]; simp
    case episode => rw [hcontroller, episode_lowerAndApply]
    case sections =>
      have hsec := sec_expiryRunning (s := s.begin) hpend k
      rw [hsec]
      refine ⟨silenced_of_active, fun hinactive => ?_⟩
      have hstands : (s.begin.sec k).silenced = s.sec k := silenced_of_inactive hinactive
      rw [hstands]
      exact ⟨rfl, rfl, rfl, rfl⟩
    case injection =>
      rw [hinjection]
      simp [hbinjection, injection_cleared]
    case record =>
      obtain ⟨es, hes⟩ := records_blocksSilenced (s := s.begin) hr
      refine ⟨{ r with entries := es }.closed .linkSilent s.link.counter, ?_, rfl, rfl, rfl, rfl, rfl⟩
      rw [hrecords]
      simpa using hes
    case drive =>
      obtain ⟨hlen, hhead⟩ := hdrive hact
      refine ⟨hlen, ?_⟩
      rw [hhead, safeDrive_words]
      simp

end Sys2Proof.Machine
end

section
/-! PROOFS. The reference tracker in an accepted frame: what its first part makes of the live angle,
the held angle, the lock and the reference in force (R20 to R35). -/

namespace Sys2Proof.Machine

/-! ### What is read of the tables -/

/-- Fields are read from the tables in use alone. -/
theorem field_congr {s t : State} (h : t.loader = s.loader) : t.field = s.field := by
  funext u i
  rw [State.field, State.field, State.image, State.image, h]

/-- The Reference Table's fields, as the tracker reads them. -/
theorem referenceFields_congr {s t : State} (h : t.loader = s.loader) :
    t.span = s.span ∧ t.lockWindow = s.lockWindow ∧ t.lockCount = s.lockCount ∧
    t.slewRate = s.slewRate ∧ t.settleCrossings = s.settleCrossings ∧
    t.returnLimit = s.returnLimit := by
  simp only [State.span, State.lockWindow, State.lockCount, State.slewRate, State.settleCrossings,
    State.returnLimit, field_congr h, and_self]

/-- No stage of a frame up to its judgement touches the loader. -/
theorem loader_stages (c : StepClass) (f : SampleFrame) (s : State) :
    (measured c f s).loader = s.loader ∧ (tracked c f s).loader = s.loader ∧
    (judged c f s).loader = s.loader := by
  simp [measured, tracked, judged]

/-- Nor does one change whether the engine is configured. -/
theorem configured_stages (c : StepClass) (f : SampleFrame) (s : State) :
    (measured c f s).configured = s.configured ∧ (tracked c f s).configured = s.configured ∧
    (judged c f s).configured = s.configured := by
  obtain ⟨hmeasured, htracked, hjudged⟩ := loader_stages c f s
  exact ⟨(configured_inService_congr (congrArg Loader.tables hmeasured)).1,
    (configured_inService_congr (congrArg Loader.tables htracked)).1,
    (configured_inService_congr (congrArg Loader.tables hjudged)).1⟩

/-! ### What the parts of the tracker's work leave -/

@[simp] theorem lockGood_leaves (n : Nat) (t : Tracker) :
    (lockGood n t).live = t.live ∧ (lockGood n t).incLive = t.incLive ∧
    (lockGood n t).quiet = t.quiet ∧ (lockGood n t).held = t.held ∧
    (lockGood n t).incHeld = t.incHeld ∧ (lockGood n t).ref = t.ref ∧
    (lockGood n t).settle = t.settle ∧ (lockGood n t).returnTimer = t.returnTimer := by
  unfold lockGood
  split <;> simp

@[simp] theorem lockBad_leaves (t : Tracker) :
    (lockBad t).live = t.live ∧ (lockBad t).incLive = t.incLive ∧ (lockBad t).quiet = t.quiet ∧
    (lockBad t).held = t.held ∧ (lockBad t).incHeld = t.incHeld ∧ (lockBad t).ref = t.ref ∧
    (lockBad t).settle = t.settle ∧ (lockBad t).returnTimer = t.returnTimer := by
  unfold lockBad
  split <;> simp

@[simp] theorem lockQuiet_leaves (gap : Nat) (t : Tracker) :
    (lockQuiet gap t).live = t.live ∧ (lockQuiet gap t).incLive = t.incLive ∧
    (lockQuiet gap t).held = t.held ∧ (lockQuiet gap t).incHeld = t.incHeld ∧
    (lockQuiet gap t).ref = t.ref ∧ (lockQuiet gap t).settle = t.settle ∧
    (lockQuiet gap t).returnTimer = t.returnTimer := by
  unfold lockQuiet
  dsimp only
  split <;> simp

@[simp] theorem takeCrossing_leaves (span window count : Nat) (t : Tracker) :
    (takeCrossing span window count t).held = t.held ∧
    (takeCrossing span window count t).incHeld = t.incHeld ∧
    (takeCrossing span window count t).ref = t.ref ∧
    (takeCrossing span window count t).settle = t.settle ∧
    (takeCrossing span window count t).returnTimer = t.returnTimer := by
  unfold takeCrossing
  dsimp only
  split <;> simp

@[simp] theorem trackLive_leaves (taken : Bool) (gap : Nat) (s : State) (t : Tracker) :
    (trackLive taken gap s t).held = t.held ∧ (trackLive taken gap s t).incHeld = t.incHeld ∧
    (trackLive taken gap s t).ref = t.ref ∧ (trackLive taken gap s t).settle = t.settle ∧
    (trackLive taken gap s t).returnTimer = t.returnTimer := by
  unfold trackLive
  cases taken <;> simp

@[simp] theorem advanceHeld_leaves (gap : Nat) (t : Tracker) :
    (advanceHeld gap t).live = t.live ∧ (advanceHeld gap t).incLive = t.incLive ∧
    (advanceHeld gap t).lock = t.lock ∧ (advanceHeld gap t).good = t.good ∧
    (advanceHeld gap t).bad = t.bad ∧ (advanceHeld gap t).quiet = t.quiet ∧
    (advanceHeld gap t).incHeld = t.incHeld ∧ (advanceHeld gap t).ref = t.ref ∧
    (advanceHeld gap t).settle = t.settle ∧ (advanceHeld gap t).returnTimer = t.returnTimer := by
  unfold advanceHeld
  split <;> simp

/-- Live angle, lock and held advance leave the reference in force with its counts (R20). -/
@[simp] theorem beforeSlew_leaves (c : StepClass) (f : SampleFrame) (s : State) :
    (beforeSlew c f s).incHeld = s.tracker.incHeld ∧ (beforeSlew c f s).ref = s.tracker.ref ∧
    (beforeSlew c f s).settle = s.tracker.settle ∧
    (beforeSlew c f s).returnTimer = s.tracker.returnTimer := by
  simp [beforeSlew]

/-! ### The live angle and the lock in a frame (R21 to R26) -/

/-- The live angle after its advance (R21). -/
theorem advanced_live (c : StepClass) (t : Tracker) :
    angle ((t.live : Int) + ((c.gap + 1) * t.incLive : Nat)) =
      (t.live + (c.gap + 1) * t.incLive) % 49152 := by
  rw [← Int.natCast_add, angle_natCast]

/-- A crossing corrects live angle and increment, and starts the quiet count again (R23, R26). -/
theorem beforeSlew_of_crossing {c : StepClass} {f : SampleFrame} {s : State}
    (h : crossingIn c f s = true) :
    ((beforeSlew c f s).live : Int) =
      (((s.tracker.live + (c.gap + 1) * s.tracker.incLive) % 49152 : Nat)
        - (errorIn c s).tdiv 4) % 49152 ∧
    (beforeSlew c f s).incLive = clampInc s.span (s.tracker.incLive - (errorIn c s).tdiv 64) ∧
    (beforeSlew c f s).quiet = 0 := by
  simp only [beforeSlew, trackLive, h, takeCrossing, if_true, advanceHeld_leaves]
  rw [← advanced_live c s.tracker, ← angle_eq]
  split <;> simp [errorIn, truncDiv]

/-- The second bad crossing unlocks (R25). -/
theorem takeCrossing_of_bad {window : Nat} {t : Tracker}
    (hwide : window < (crossingError t.live).natAbs) (hbad : 1 ≤ t.bad) (span count : Nat) :
    (takeCrossing span window count t).lock = .unlocked ∧
    (takeCrossing span window count t).good = 0 ∧
    (takeCrossing span window count t).bad = 0 := by
  have hnot : crossingIsGood window (crossingError t.live) = false := by
    simpa [crossingIsGood] using hwide
  simp [takeCrossing, hnot, lockBad, hbad]

/-- The good crossing that completes lock_count locks (R24). -/
theorem takeCrossing_of_good {window count : Nat} {t : Tracker}
    (hnear : (crossingError t.live).natAbs ≤ window) (hlocking : t.lock = .locking)
    (hcount : count ≤ t.good + 1) (span : Nat) :
    (takeCrossing span window count t).lock = .locked ∧
    (takeCrossing span window count t).good = t.good + 1 ∧
    (takeCrossing span window count t).bad = 0 := by
  have hgood : crossingIsGood window (crossingError t.live) = true := by
    simpa [crossingIsGood] using hnear
  simp [takeCrossing, hgood, lockGood, hlocking, hcount]

/-- The tracker once its live angle has advanced (R21); the crossing error is read there (R23). -/
def advanced (c : StepClass) (s : State) : Tracker :=
  { s.tracker with
    live := angle ((s.tracker.live : Int) + ((c.gap + 1) * s.tracker.incLive : Nat)) }

/-- A crossing moves the lock as `takeCrossing` does on the advanced live angle (R23 to R25). -/
theorem lock_beforeSlew_of_crossing {c : StepClass} {f : SampleFrame} {s : State}
    (h : crossingIn c f s = true) :
    let u := takeCrossing s.span s.lockWindow s.lockCount (advanced c s)
    (beforeSlew c f s).lock = u.lock ∧ (beforeSlew c f s).good = u.good ∧
    (beforeSlew c f s).bad = u.bad := by
  simp only [beforeSlew, trackLive, advanced, h, if_true, advanceHeld_leaves, and_self]

/-- Without a crossing the live angle advances (R21) and the quiet count unlocks at 256 (R26). -/
theorem beforeSlew_of_quiet {c : StepClass} {f : SampleFrame} {s : State}
    (h : crossingIn c f s = false) :
    (beforeSlew c f s).live = (s.tracker.live + (c.gap + 1) * s.tracker.incLive) % 49152 ∧
    (beforeSlew c f s).incLive = s.tracker.incLive ∧
    (s.tracker.quiet < 256 → 256 ≤ s.tracker.quiet + c.gap + 1 →
      (beforeSlew c f s).lock = .unlocked ∧ (beforeSlew c f s).good = 0 ∧
      (beforeSlew c f s).bad = 0 ∧ (beforeSlew c f s).quiet = 256) := by
  simp only [beforeSlew, trackLive, h, Bool.false_eq_true, if_false, advanceHeld_leaves,
    lockQuiet_leaves, advanced_live, true_and]
  intro hbelow hreach
  simp [lockQuiet, Config.quietLimit, hbelow, hreach]

/-- The held angle advances while it is in force (R29). -/
theorem held_beforeSlew {c : StepClass} {f : SampleFrame} {s : State}
    (h : s.tracker.ref ≠ .tracking) :
    (beforeSlew c f s).held = (s.tracker.held + (c.gap + 1) * s.tracker.incHeld) % 49152 := by
  simp only [beforeSlew, advanceHeld, trackLive_leaves, h, if_false]
  rw [← Int.natCast_add, angle_natCast]

/-! ### The tracker's first part on a frame (R20, R31 to R35) -/

/-- The marks that the tracker publishes for a frame (R34). -/
def marksIn (c : StepClass) (f : SampleFrame) (s : State) : TrackerMarks :=
  { boundary := boundaryIn c.gap s.tracker (slewStep s.slewRate (deltaOf c f s))
    crossing := crossingIn c f s
    crossingGood := crossingIn c f s && crossingIsGood s.lockWindow (errorIn c s)
    heldAdvanced := (beforeSlew c f s).held
    becameTracking := s.tracker.ref == .slewing && (settlesIn c f s || forcedIn c f s)
    forcedReturn := forcedIn c f s }

/-- The tracker's first part finds the frame's own values (R22). -/
theorem tracker_tracked {c : StepClass} {f : SampleFrame} {s : State} (h : s.configured = true) :
    (tracked c f s).tracker = trackFirst s.previous c.gap (measured c f s) s.tracker := by
  have htracker : (measured c f s).tracker = s.tracker := by simp [measured]
  have hconf : (measured c f s).configured = true := (configured_stages c f s).1.trans h
  simp only [tracked, storeWork_leaves, trackerFirst, hconf, if_true, unlockAlert_leaves, htracker]

/-- The live angle is tracked by the Reference Table's fields alone. -/
theorem trackLive_congr {s t : State} (h : t.loader = s.loader) (taken : Bool) (gap : Nat)
    (u : Tracker) : trackLive taken gap t u = trackLive taken gap s u := by
  obtain ⟨hspan, hwindow, hcount, -⟩ := referenceFields_congr h
  simp only [trackLive, hspan, hwindow, hcount]

/-- Live and held angle as the slew step finds them (R31). -/
theorem beforeSlew_measured (c : StepClass) (f : SampleFrame) (s : State) :
    advanceHeld c.gap (trackLive (crossingTaken s.previous (measured c f s)) c.gap (measured c f s)
      s.tracker) = beforeSlew c f s := by
  rw [trackLive_congr (loader_stages c f s).1]
  rfl

/-- The three conditions of R32, tested after the slew step. -/
theorem settled_measured (c : StepClass) (f : SampleFrame) (s : State) :
    settled (measured c f s) (deltaOf c f s)
      (slewed (crossingIn c f s) c.gap s.slewRate (beforeSlew c f s)) = settlesIn c f s := by
  obtain ⟨-, -, -, hrate, hcrossings, -⟩ := referenceFields_congr (loader_stages c f s).1
  obtain ⟨-, -, hsettle, -⟩ := beforeSlew_leaves c f s
  unfold settled settlesIn slewed settleOf
  rw [hrate, hcrossings, hsettle]

/-- The forced return comes when the settling fails (R33). -/
theorem returnDue_measured {c : StepClass} {f : SampleFrame} {s : State}
    (hslew : s.tracker.ref = .slewing) (hnot : settlesIn c f s = false) :
    returnDue (measured c f s) (slewed (crossingIn c f s) c.gap s.slewRate (beforeSlew c f s)) =
      forcedIn c f s := by
  obtain ⟨-, -, -, -, -, hlimit⟩ := referenceFields_congr (loader_stages c f s).1
  simp [returnDue, forcedIn, slewed, Config.returnTimerMax, hlimit, hslew, hnot]

/-- A frame that begins TRACKING or HELD makes no slew step (R31). -/
theorem tracker_tracked_of_notSlewing {c : StepClass} {f : SampleFrame} {s : State}
    (hconf : s.configured = true) (h : s.tracker.ref ≠ .slewing) :
    (tracked c f s).tracker = { beforeSlew c f s with marks := marksIn c f s } := by
  obtain ⟨-, hwindow, -, hrate, -⟩ := referenceFields_congr (loader_stages c f s).1
  rw [tracker_tracked hconf]
  simp only [trackFirst, beforeSlew_measured, if_neg h, hwindow, hrate]
  simp [marksIn, forcedIn, h, crossingIn, errorIn, deltaOf]

/-- The first part leaves the reference in force when it makes no slew step (R20). -/
theorem ref_tracked_of_notSlewing {c : StepClass} {f : SampleFrame} {s : State}
    (hconf : s.configured = true) (h : s.tracker.ref ≠ .slewing) :
    (tracked c f s).tracker.ref = s.tracker.ref := by
  simp [tracker_tracked_of_notSlewing hconf h]

/-- A frame that begins SLEWING makes its slew step, and settles or is forced to TRACKING or slews
on (R31 to R33). -/
theorem tracker_tracked_of_slewing {c : StepClass} {f : SampleFrame} {s : State}
    (hconf : s.configured = true) (h : s.tracker.ref = .slewing) :
    (tracked c f s).tracker =
      { slewed (crossingIn c f s) c.gap s.slewRate (beforeSlew c f s) with
        ref := if settlesIn c f s || forcedIn c f s then .tracking else .slewing
        marks := marksIn c f s } := by
  obtain ⟨-, hwindow, -, hrate, -⟩ := referenceFields_congr (loader_stages c f s).1
  rw [tracker_tracked hconf]
  simp only [trackFirst, beforeSlew_measured, if_pos h, hwindow, hrate]
  change (if settled (measured c f s) (deltaOf c f s) (slewed (crossingIn c f s) _ _ _) then _
    else if returnDue (measured c f s) (slewed (crossingIn c f s) _ _ _) then _ else _) = _
  rw [settled_measured]
  cases hsettles : settlesIn c f s with
  | true =>
    have hforced : forcedIn c f s = false := by simp [forcedIn, hsettles]
    simp [marksIn, h, hsettles, hforced, crossingIn, errorIn, deltaOf]
  | false =>
    rw [returnDue_measured h hsettles]
    cases hforced : forcedIn c f s <;>
      simp [marksIn, h, hsettles, hforced, crossingIn, errorIn, deltaOf, slewed]

end Sys2Proof.Machine
end

section
/-! PROOFS. From the judgement of an accepted frame to the state it leaves: what the answer keeps of
tracker, detector and sections, and the tracker's two parts together (R20, R125, R164). -/

namespace Sys2Proof.Machine

/-! ### What the answer keeps of the judgement -/

/-- The engine as the record unit finds it: the DRIVE frame sent (R125, R149). -/
def answered (s : State) : State :=
  (injectionWork (controllerWork s).state).send
    (sampleDrive (injectionWork (controllerWork s).state)).words

/-- The engine once the frame's record is up to date, before a deferred application (R149, R164). -/
def recorded (s : State) : State :=
  recordWork (controllerWork s).outcomes (controllerWork s).ended (answered s)

/-- At the out slot a deferred application has followed when the episode signal was lowered (R164).
-/
theorem beforeSlot_eq (s : State) : beforeSlot s =
    if (controllerWork s).ended then deferredApply (recorded s) else recorded s := rfl

/-- References, DRIVE frame and record keep the judgement and what the controller has decided. -/
theorem recorded_leaves (s : State) :
    (recorded s).tracker = s.tracker ∧ (recorded s).detector = s.detector ∧
    (recorded s).loader = s.loader ∧
    (recorded s).controller = (controllerWork s).state.controller := by
  simp [recorded, answered]

/-- With no load PENDING, or the signal not lowered, no table is applied. -/
theorem beforeSlot_of_undeferred {s : State}
    (h : noPending s = true ∨ (controllerWork s).ended = false) : beforeSlot s = recorded s := by
  rw [beforeSlot_eq]
  split
  · rename_i hended
    refine deferredApply_of_noPending ?_
    obtain ⟨-, -, hloader, -⟩ := recorded_leaves s
    rw [noPending, hloader]
    exact h.resolve_right (by simp [hended])
  · rfl

/-- A frame in which no table is applied leaves tracker and detector as judged, and the sections as
the controller has decided. -/
theorem acceptedFrame_of_undeferred {c : StepClass} {f : SampleFrame} {s : State}
    (h : noPending s = true ∨ endsIn c f s = false) :
    (fillOutSlot (atSlot c f s)).tracker = (judged c f s).tracker ∧
    (fillOutSlot (atSlot c f s)).detector = (judged c f s).detector ∧
    (fillOutSlot (atSlot c f s)).controller =
      (controllerWork (judged c f s)).state.controller := by
  have hload : noPending (judged c f s) = noPending s := by
    rw [noPending, noPending, (loader_stages c f s).2.2]
  have hslot : atSlot c f s = recorded (judged c f s) :=
    beforeSlot_of_undeferred (by rw [hload]; exact h)
  obtain ⟨htracker, hdetector, -, hcontroller⟩ := recorded_leaves (judged c f s)
  simp only [fillOutSlot_leaves, hslot, htracker, hdetector, hcontroller, and_self]

/-! ### The tracker's second part (R20, R28, R30) -/

/-- The tracker acts on the detector's result of the frame. -/
theorem tracker_judged {c : StepClass} {f : SampleFrame} {s : State} (h : s.configured = true) :
    (judged c f s).tracker =
      if (judged c f s).detector.sagStart then captureHeld (tracked c f s).tracker
      else if (judged c f s).detector.sagEnd then startSlew (tracked c f s).tracker
      else (tracked c f s).tracker := by
  have hdetector : (judged c f s).detector =
      (detectorWork s.previous c (tracked c f s)).detector := by
    simp [judged, judgeFrame, tracked]
  have htracker : (judged c f s).tracker =
      (trackerSecond (detectorWork s.previous c (tracked c f s))).tracker := by
    simp [judged, judgeFrame, tracked]
  have hconf : (detectorWork s.previous c (tracked c f s)).configured = true := by
    rw [← h]
    exact (configured_inService_congr (by simp [tracked, measured])).1
  rw [htracker, hdetector, trackerSecond, if_pos hconf]
  (repeat' split) <;> simp

/-- An engine that is not configured leaves the tracker alone (R20). -/
theorem tracker_judged_of_unconfigured {c : StepClass} {f : SampleFrame} {s : State}
    (h : s.configured = false) : (judged c f s).tracker = s.tracker := by
  have hnot : ∀ u : State, u.loader = s.loader → u.configured = false := fun u hu =>
    (configured_inService_congr (congrArg Loader.tables hu)).1.trans h
  have hsecond : ∀ u : State, u.loader = s.loader → (trackerSecond u).tracker = u.tracker := by
    intro u hu
    rw [trackerSecond, hnot u hu]
    rfl
  have hfirst : (trackerFirst s.previous c.gap (measured c f s)) = measured c f s := by
    rw [trackerFirst, hnot _ (loader_stages c f s).1]
    rfl
  simp only [judged, judgeFrame, demandWork_leaves]
  rw [hsecond _ (by simp [measured]), hfirst]
  simp [measured]

/-- The detector's result does not touch the live angle, the lock or the marks. -/
theorem live_judged {c : StepClass} {f : SampleFrame} {s : State} (h : s.configured = true) :
    (judged c f s).tracker.live = (beforeSlew c f s).live ∧
    (judged c f s).tracker.incLive = (beforeSlew c f s).incLive ∧
    (judged c f s).tracker.lock = (beforeSlew c f s).lock ∧
    (judged c f s).tracker.good = (beforeSlew c f s).good ∧
    (judged c f s).tracker.bad = (beforeSlew c f s).bad ∧
    (judged c f s).tracker.quiet = (beforeSlew c f s).quiet ∧
    (judged c f s).tracker.marks = marksIn c f s := by
  have hfirst : (tracked c f s).tracker.live = (beforeSlew c f s).live ∧
      (tracked c f s).tracker.incLive = (beforeSlew c f s).incLive ∧
      (tracked c f s).tracker.lock = (beforeSlew c f s).lock ∧
      (tracked c f s).tracker.good = (beforeSlew c f s).good ∧
      (tracked c f s).tracker.bad = (beforeSlew c f s).bad ∧
      (tracked c f s).tracker.quiet = (beforeSlew c f s).quiet ∧
      (tracked c f s).tracker.marks = marksIn c f s := by
    by_cases hslew : s.tracker.ref = .slewing
    · simp [tracker_tracked_of_slewing h hslew, slewed]
    · simp [tracker_tracked_of_notSlewing h hslew]
  rw [tracker_judged h]
  (repeat' split) <;> simpa using hfirst

/-- A HELD reference stays HELD without a sag end (R28 to R30). -/
theorem tracker_judged_of_held {c : StepClass} {f : SampleFrame} {s : State}
    (hconf : s.configured = true) (h : s.tracker.ref = .held)
    (hend : (judged c f s).detector.sagEnd = false) :
    (judged c f s).tracker = { beforeSlew c f s with marks := marksIn c f s } := by
  have hfirst := tracker_tracked_of_notSlewing (f := f) (c := c) hconf (by simp [h])
  have hheld : (tracked c f s).tracker.ref = .held :=
    (ref_tracked_of_notSlewing hconf (by simp [h])).trans h
  rw [tracker_judged hconf, hend, captureHeld, hheld, ← hfirst]
  simp

/-- A frame that begins SLEWING and is no sag-start frame ends as its slew step leaves it (R31 to
R33). -/
theorem tracker_judged_of_slewing {c : StepClass} {f : SampleFrame} {s : State}
    (hconf : s.configured = true) (h : s.tracker.ref = .slewing)
    (hstart : (judged c f s).detector.sagStart = false) :
    (judged c f s).tracker = (tracked c f s).tracker := by
  have hstays : startSlew (tracked c f s).tracker = (tracked c f s).tracker := by
    rw [startSlew, tracker_tracked_of_slewing hconf h, if_neg]
    cases settlesIn c f s || forcedIn c f s <;> simp
  rw [tracker_judged hconf, hstart, hstays]
  simp

/-! ### The angles of a frame -/

/-- The movement of the angle in force reaches a cycle's end (R35). -/
theorem boundaryIn_iff (gap : Nat) (t : Tracker) (move : Int) : boundaryIn gap t move = true ↔
    (t.ref = .tracking ∧ 49152 ≤ t.live + (gap + 1) * t.incLive) ∨
    (t.ref = .held ∧ 49152 ≤ t.held + (gap + 1) * t.incHeld) ∨
    (t.ref = .slewing ∧ (49152 : Int) ≤ ((t.held + (gap + 1) * t.incHeld : Nat) : Int) + move) := by
  unfold boundaryIn Config.cycle
  cases href : t.ref <;> simp

/-- The slew step moves the held angle by all of Δ within slew_rate, else by slew_rate towards the
live angle (R31). -/
theorem held_slewed (taken : Bool) (gap rate : Nat) (t : Tracker) :
    ((slewDelta t.live t.held).natAbs ≤ rate →
      ((slewed taken gap rate t).held : Int) = (t.held + slewDelta t.live t.held) % 49152) ∧
    (rate < (slewDelta t.live t.held).natAbs →
      ((slewed taken gap rate t).held : Int) =
        (t.held + (if slewDelta t.live t.held < 0 then -(rate : Int) else rate)) % 49152) := by
  refine ⟨fun hnear => ?_, fun hfar => ?_⟩
  · rw [slewed, slewStep, if_pos hnear, angle_eq]
  · rw [slewed, slewStep, if_neg (Nat.not_le.2 hfar), angle_eq]

/-- Settles O11: the first part of the tracker's work read off item by item, the second part leaving
it alone. -/
theorem trackerAngles : Obligations.TrackerAngles := by
  intro c f s hacc hpend
  obtain ⟨htracker, hdetector, -⟩ := acceptedFrame_of_undeferred (c := c) (f := f) (.inl hpend)
  refine ⟨_, exec_sampleFrame_of_accepted hacc, fun hnot => ⟨?idle, fun k => ?noBoundary⟩,
    fun hconf => ?_⟩
  case idle => rw [htracker, tracker_judged_of_unconfigured hnot]
  case noBoundary =>
    have hdecided : (decided c f s).configured = false := by
      rw [← hnot]
      exact (configured_inService_congr (by simp [decided, judged, measured])).1
    simp [viewOf, sectionView, hdecided]
  rw [htracker, hdetector]
  obtain ⟨hlive, hinc, -, -, -, hquiet, hmarks⟩ := live_judged (c := c) (f := f) hconf
  rw [hlive, hinc, hquiet, hmarks]
  refine ⟨boundaryIn_iff _ _ _, fun hcross => ?quiet, fun hcross => ?crossing,
    fun hheld hend => ?held, fun hslew hstart => ?slewing⟩
  case quiet =>
    obtain ⟨hadvanced, hkept, -⟩ := beforeSlew_of_quiet hcross
    exact ⟨hadvanced, hkept⟩
  case crossing => exact beforeSlew_of_crossing hcross
  case held =>
    rw [tracker_judged_of_held hconf hheld hend]
    exact ⟨by simp [hheld], by simp, held_beforeSlew (by simp [hheld])⟩
  case slewing =>
    rw [tracker_judged_of_slewing hconf hslew hstart, tracker_tracked_of_slewing hconf hslew]
    exact ⟨by simp [slewed], held_slewed (crossingIn c f s) c.gap s.slewRate (beforeSlew c f s)⟩

/-! ### The lock changes -/

/-- The store allocator raises STORE_LOW alone (R140). -/
theorem alerts_storeWork {k : AlertKind} (h : k ≠ .storeLow) (s : State) :
    (storeWork s).management.alerts.get k = s.management.alerts.get k := by
  unfold storeWork
  dsimp only
  (repeat' split)
  · exact alerts_raise_of_ne _ (Ne.symm h) _
  · rfl
  · rfl

/-- A frame in which the lock is lost reports TRACKER_UNLOCK (R27). -/
theorem reports_trackerUnlock {c : StepClass} {f : SampleFrame} {s : State}
    (hconf : s.configured = true) (hbefore : s.tracker.lock ≠ .unlocked)
    (hafter : (beforeSlew c f s).lock = .unlocked) :
    (fillOutSlot (atSlot c f s)).reports .trackerUnlock ⟨0, 0⟩ = true := by
  have hmeasured : (measured c f s).tracker = s.tracker := by simp [measured]
  have hlock : (trackFirst s.previous c.gap (measured c f s) s.tracker).lock = .unlocked := by
    rw [← tracker_tracked hconf, ← hafter]
    by_cases hslew : s.tracker.ref = .slewing
    · rw [tracker_tracked_of_slewing hconf hslew, slewed]
    · rw [tracker_tracked_of_notSlewing hconf hslew]
  have hraised :
      (trackerFirst s.previous c.gap (measured c f s)).management.alerts.get .trackerUnlock =
        some ⟨0, 0⟩ := by
    rw [trackerFirst, if_pos ((configured_stages c f s).1.trans hconf), hmeasured]
    simp [unlockAlert, hbefore, hlock, Management.raised, noPayload]
  have hjudged : (judged c f s).management.alerts.get .trackerUnlock = some ⟨0, 0⟩ := by
    simp only [judged, judgeFrame, demandWork_leaves, trackerSecond_leaves, detectorWork_leaves]
    rw [alerts_storeWork (by decide), hraised]
  refine fillOutSlot_reports ?_
  rw [atSlot, alerts_beforeSlot rfl (by decide) (by decide) (by decide), hjudged]

/-- Settles O12: the lock after the frame is the one that the crossing, or the quiet count, makes.
-/
theorem lockChanges : Obligations.LockChanges := by
  intro c f s hacc hpend hconf
  obtain ⟨htracker, -⟩ := acceptedFrame_of_undeferred (c := c) (f := f) (.inl hpend)
  obtain ⟨-, -, hlock, hgood, hbad, hquiet, -⟩ := live_judged (c := c) (f := f) hconf
  rw [← htracker] at hlock hgood hbad hquiet
  have hexec := exec_sampleFrame_of_accepted hacc
  refine ⟨fun hcross hnear hlocking hcount => ?gained, fun hcross hwide hone => ?bad,
    fun hcross hbelow hreach => ?quiet⟩
  case gained =>
    obtain ⟨hl, hg, hb⟩ := lock_beforeSlew_of_crossing hcross
    obtain ⟨hlocked, hmore, hzero⟩ :=
      takeCrossing_of_good (t := advanced c s) hnear hlocking hcount s.span
    exact ⟨_, hexec, hlock.trans (hl.trans hlocked), hgood.trans (hg.trans hmore),
      hbad.trans (hb.trans hzero)⟩
  case bad =>
    obtain ⟨hl, hg, hb⟩ := lock_beforeSlew_of_crossing hcross
    obtain ⟨hunlocked, hnone, hzero⟩ :=
      takeCrossing_of_bad (t := advanced c s) hwide hone s.span s.lockCount
    exact ⟨_, hexec, hlock.trans (hl.trans hunlocked), hgood.trans (hg.trans hnone),
      hbad.trans (hb.trans hzero),
      fun hbefore => reports_trackerUnlock hconf hbefore (hl.trans hunlocked)⟩
  case quiet =>
    obtain ⟨-, -, hends⟩ := beforeSlew_of_quiet hcross
    obtain ⟨hl, hg, hb, hq⟩ := hends hbelow hreach
    exact ⟨_, hexec, hlock.trans hl, hgood.trans hg, hbad.trans hb, hquiet.trans hq,
      fun hbefore => reports_trackerUnlock hconf hbefore hl⟩

end Sys2Proof.Machine
end

section
/-! PROOFS. A section in an accepted frame: its move, read at the end of the frame, and the moves at
a sag end and when the reference becomes TRACKING (R83, R84, R95, R96, R107). -/

namespace Sys2Proof.Machine

/-! ### A section's move, as the end of the frame shows it -/

/-- Section k's move in a frame (R83). -/
def movedOf (c : StepClass) (f : SampleFrame) (s : State) (k : Fin 4) : Moved :=
  sectionFrame k (viewOf c f s k) (s.sec k)

/-- Section k as its decision finds it: updated, an OPEN confirm that has succeeded ended (R83,
R87). -/
def decidingOf (c : StepClass) (f : SampleFrame) (s : State) (k : Fin 4) : Section :=
  if (newsOf c f s k).openOk then (updatedOf c f s k).endConfirm else updatedOf c f s k

/-- The move is the decision of R84. -/
theorem sec_movedOf (c : StepClass) (f : SampleFrame) (s : State) (k : Fin 4) :
    (movedOf c f s k).sec =
      (decideByState k (viewOf c f s k) (newsOf c f s k) (decidingOf c f s k)).sec := by
  unfold movedOf sectionFrame decidingOf newsOf updatedOf
  rfl

/-- What the updates leave for the decision. -/
@[simp] theorem decidingOf_leaves (c : StepClass) (f : SampleFrame) (s : State) (k : Fin 4) :
    (decidingOf c f s k).state = (s.sec k).state ∧
    (decidingOf c f s k).service = (s.sec k).service ∧
    (decidingOf c f s k).overCount = (updatedOf c f s k).overCount := by
  unfold decidingOf
  split <;> simp [updatedOf, Section.endConfirm]

/-- The four moves, as the controller places them. -/
theorem get_sectionFrames_judged (c : StepClass) (f : SampleFrame) (s : State) (k : Fin 4) :
    (sectionFrames (raiseEpisode (judged c f s))).get k = movedOf c f s k := by
  have hsec : (raiseEpisode (judged c f s)).controller.sections = s.controller.sections := by
    simp [judged, measured]
  rw [sectionFrames, Four.get_build, hsec]
  rfl

/-- Placing sections puts each move's section in place. -/
theorem sections_placeSections (m : Four Moved) (s : State) :
    (placeSections m s).controller.sections = m.map Moved.sec := by
  simp [placeSections]

/-- A section at the end of a frame that applies no table: its move, at FULL service when the
episode signal was lowered (R107). -/
theorem sec_acceptedFrame {c : StepClass} {f : SampleFrame} {s : State}
    (h : noPending s = true ∨ endsIn c f s = false) (k : Fin 4) :
    (fillOutSlot (atSlot c f s)).sec k = { (movedOf c f s k).sec with
      service := if endsIn c f s then .full else (movedOf c f s k).sec.service } := by
  have hplaced : (placeSections (sectionFrames (raiseEpisode (judged c f s)))
      (raiseEpisode (judged c f s))).controller.sections.get k = (movedOf c f s k).sec := by
    rw [sections_placeSections, Four.get_map, get_sectionFrames_judged]
  rw [State.sec, (acceptedFrame_of_undeferred h).2.2, endsIn, ← hplaced]
  unfold controllerWork
  dsimp only
  split
  · exact Four.get_map _ _ k
  · rfl

/-- A section that holds the episode after its move keeps the signal up (R107). -/
theorem endsIn_of_holdsEpisode {c : StepClass} {f : SampleFrame} {s : State} {k : Fin 4}
    (h : (movedOf c f s k).sec.state.holdsEpisode = true) : endsIn c f s = false := by
  have hholds : ∀ secs : Four Section, (secs.get k).state.holdsEpisode = true →
      noneHolds secs = false := by
    intro secs hk
    match k with
    | 0 | 1 | 2 | 3 =>
      simp only [Four.get] at hk
      simp [noneHolds, hk]
  have hnone : noneHolds (placeSections (sectionFrames (raiseEpisode (judged c f s)))
      (raiseEpisode (judged c f s))).controller.sections = false := by
    refine hholds _ ?_
    rw [sections_placeSections, Four.get_map, get_sectionFrames_judged, h]
  simp [endsIn, controllerWork, episodeEnds, hnone]

/-- A detector that is not CLEAR keeps the signal up (R107). -/
theorem endsIn_of_notClear {c : StepClass} {f : SampleFrame} {s : State}
    (h : (judged c f s).detector.state ≠ .clear) : endsIn c f s = false := by
  simp [endsIn, controllerWork, episodeEnds, h]

/-- A section that holds the episode after its move ends the frame as its move leaves it. -/
theorem sec_acceptedFrame_of_holdsEpisode {c : StepClass} {f : SampleFrame} {s : State} {k : Fin 4}
    (h : (movedOf c f s k).sec.state.holdsEpisode = true) :
    (fillOutSlot (atSlot c f s)).sec k = (movedOf c f s k).sec := by
  have hup := endsIn_of_holdsEpisode h
  rw [sec_acceptedFrame (.inr hup) k, hup]
  simp

/-! ### What a section reads of tracker and detector -/

/-- The events of a configured frame, as every section reads them (R83). -/
theorem viewOf_events {c : StepClass} {f : SampleFrame} {s : State} (h : s.configured = true)
    (k : Fin 4) :
    (viewOf c f s k).sagStart = (judged c f s).detector.sagStart ∧
    (viewOf c f s k).sagEnd = (judged c f s).detector.sagEnd ∧
    (viewOf c f s k).becameTracking = (judged c f s).tracker.marks.becameTracking ∧
    (viewOf c f s k).strategy = s.strategy k := by
  have hloader : (decided c f s).loader = s.loader := by simp [decided, judged, measured]
  have hconf : (decided c f s).configured = true :=
    (configured_inService_congr (congrArg Loader.tables hloader)).1.trans h
  have hdetector : (decided c f s).detector = (judged c f s).detector := by simp [decided]
  have htracker : (decided c f s).tracker = (judged c f s).tracker := by simp [decided]
  have hstrategy : (decided c f s).strategy k = s.strategy k := by
    rw [State.strategy, State.strategy, State.secField, State.secField, field_congr hloader]
  simp only [viewOf, sectionView, State.sagStarts, hconf, Bool.true_and, hdetector, htracker,
    hstrategy, and_self]

/-! ### Moves of a section that nothing of higher rank reaches (R84) -/

/-- An undisturbed section meets no entry of R84 above the sag and reference events. -/
theorem openHazard_of_undisturbed {c : StepClass} {f : SampleFrame} {s : State} {k : Fin 4}
    (h : undisturbed c f s k = true) :
    bridgeFaultDue (viewOf c f s k) (decidingOf c f s k) = false ∧
    openHazard k (viewOf c f s k) (newsOf c f s k).openTimesOut (newsOf c f s k).turnedClosed
      (decidingOf c f s k) = none := by
  simp only [undisturbed, Bool.and_eq_true, Bool.not_eq_true', decide_eq_true_eq] at h
  obtain ⟨⟨⟨⟨hready, hbridge⟩, hopen⟩, hclose⟩, hover⟩ := h
  have huncommanded :
      ((newsOf c f s k).turnedClosed && (decidingOf c f s k).confirm != .opening) = false := by
    cases hok : (newsOf c f s k).openOk with
    | true =>
      have hfeedback : (updatedOf c f s k).feedback = .opened := by
        simp only [newsOf, confirmNews, Bool.and_eq_true, beq_iff_eq] at hok
        exact hok.1.2
      simp [newsOf, confirmNews, hfeedback]
    | false => simpa [decidingOf, hok, updatedOf] using hclose
  have hcount : ¬2 ≤ (decidingOf c f s k).overCount := by
    simpa using hover
  exact ⟨by simp [bridgeFaultDue, hbridge], by
    simp only [openHazard, hready, hopen, huncommanded, hcount, Bool.not_true, Bool.false_eq_true,
      if_false]⟩

/-- An undisturbed RETURNING/SLEWING section closes when the reference becomes TRACKING (R96). -/
theorem movedOf_slewing {c : StepClass} {f : SampleFrame} {s : State} {k : Fin 4}
    (hconf : s.configured = true) (hstate : (s.sec k).state = .returningSlewing)
    (hfree : undisturbed c f s k = true) (hstart : (judged c f s).detector.sagStart = false)
    (htracking : (judged c f s).tracker.marks.becameTracking = true) :
    (movedOf c f s k).sec = (decidingOf c f s k).startClosing := by
  obtain ⟨hbridge, hhazard⟩ := openHazard_of_undisturbed hfree
  obtain ⟨hnoStart, -, hbecame, -⟩ := viewOf_events (c := c) (f := f) hconf k
  rw [hstart] at hnoStart
  rw [htracking] at hbecame
  simp [sec_movedOf, decideByState, hbridge, hstate, decideSlewing, hhazard, hnoStart, hbecame,
    Moved.quiet]

/-- An undisturbed INJECTING section returns at the sag end (R95). -/
theorem movedOf_injecting {c : StepClass} {f : SampleFrame} {s : State} {k : Fin 4}
    (hconf : s.configured = true) (hstate : (s.sec k).state = .injecting)
    (hfree : undisturbed c f s k = true) (hend : (judged c f s).detector.sagEnd = true) :
    (movedOf c f s k).sec = injectingAtSagEnd (viewOf c f s k) (decidingOf c f s k) := by
  obtain ⟨hbridge, hhazard⟩ := openHazard_of_undisturbed hfree
  obtain ⟨-, hends, -⟩ := viewOf_events (c := c) (f := f) hconf k
  rw [hend] at hends
  simp [sec_movedOf, decideByState, hbridge, hstate, decideInjecting, hhazard, hends, Moved.quiet]

/-- A WATCHING section whose driver is ready and whose bypass stays closed is ARMED at the sag end
(R95). -/
theorem movedOf_watching {c : StepClass} {f : SampleFrame} {s : State} {k : Fin 4}
    (hconf : s.configured = true) (hstate : (s.sec k).state = .watching)
    (hready : (viewOf c f s k).status.ready = true)
    (hbridge : (viewOf c f s k).status.bridgeFault = false)
    (hclosed : (newsOf c f s k).turnedOpen = false)
    (hend : (judged c f s).detector.sagEnd = true) :
    (movedOf c f s k).sec = { decidingOf c f s k with state := .armed, eligible := false } := by
  obtain ⟨-, hends, -⟩ := viewOf_events (c := c) (f := f) hconf k
  rw [hend] at hends
  simp [sec_movedOf, decideByState, bridgeFaultDue, hbridge, hstate, decideWatching, hready,
    hclosed, hends, Moved.quiet]

/-- A section that starts to close begins a new CLOSE confirm (R95, R96). -/
theorem startClosing_items (x : Section) :
    x.startClosing.state = .returningClosing ∧ x.startClosing.confirm = .closing ∧
    x.startClosing.confirmTimer = 0 := ⟨rfl, rfl, rfl⟩

/-- A section that starts to close in a frame ends the frame in RETURNING/CLOSING. -/
theorem sec_acceptedFrame_of_startClosing {c : StepClass} {f : SampleFrame} {s : State} {k : Fin 4}
    {x : Section} (h : (movedOf c f s k).sec = x.startClosing) :
    ((fillOutSlot (atSlot c f s)).sec k).state = .returningClosing ∧
    ((fillOutSlot (atSlot c f s)).sec k).confirm = .closing ∧
    ((fillOutSlot (atSlot c f s)).sec k).confirmTimer = 0 := by
  rw [sec_acceptedFrame_of_holdsEpisode (by rw [h]; rfl), h]
  exact startClosing_items x

/-! ### The OPEN record of a frame (R149 to R153) -/

/-- Outcomes handed to a record keep the sections of its entries (R151). -/
theorem foldl_handed_secs (k : Fin 4) (os : List EntryOutcome) (r : Record) :
    (os.foldl (fun r o => r.handed k o) r).entries.map Entry.sec = r.entries.map Entry.sec := by
  induction os generalizing r with
  | nil => rfl
  | cons o os ih =>
    have hone : (r.handed k o).entries.map Entry.sec = r.entries.map Entry.sec := by
      rw [Record.handed_entries, List.map_map]
      rfl
    exact (ih (r.handed k o)).trans hone

/-- Outcomes of one section change the worst outcomes of the OPEN record's entries alone (R151). -/
theorem openRecord_handOutcomes_secs {s : State} {r : Record}
    (h : openRecord s.records.list = some r) (k : Fin 4) (os : List EntryOutcome) :
    ∃ es, openRecord (handOutcomes k os s).records.list = some { r with entries := es } ∧
      es.map Entry.sec = r.entries.map Entry.sec := by
  obtain ⟨es, hes⟩ := openRecord_handOutcomes h k os
  have hlast : (handOutcomes k os s).records.list.getLast? =
      some (os.foldl (fun r o => r.handed k o) r) := updateOpen_getLast h
  have hfold : { r with entries := es } = os.foldl (fun r o => r.handed k o) r :=
    Option.some.inj ((openRecord_eq_some.1 hes).1.symm.trans hlast)
  exact ⟨es, hes,
    (congrArg (fun q => q.entries.map Entry.sec) hfold).trans (foldl_handed_secs k os r)⟩

/-- Outcomes of all sections change the worst outcomes of the OPEN record's entries alone (R151). -/
theorem openRecord_handAll_secs {s : State} {r : Record}
    (h : openRecord s.records.list = some r) (os : Four (List EntryOutcome)) :
    ∃ es, openRecord (handAll os s).records.list = some { r with entries := es } ∧
      es.map Entry.sec = r.entries.map Entry.sec := by
  obtain ⟨_, h0, hs0⟩ := openRecord_handOutcomes_secs h 0 os.i0
  obtain ⟨_, h1, hs1⟩ := openRecord_handOutcomes_secs h0 1 os.i1
  obtain ⟨_, h2, hs2⟩ := openRecord_handOutcomes_secs h1 2 os.i2
  obtain ⟨es, h3, hs3⟩ := openRecord_handOutcomes_secs h2 3 os.i3
  exact ⟨es, h3, hs3.trans (hs2.trans (hs1.trans hs0))⟩

/-- What a record that is OPEN in a frame keeps to the end of it, and what the frame makes of it
(R150 to R153): OPEN until its episode ends, and marked at a forced return. -/
structure Record.Continues (forced ended : Bool) (r r' : Record) : Prop where
  seq : r'.seq = r.seq
  startFrame : r'.startFrame = r.startFrame
  trigger : r'.trigger = r.trigger
  fStart : r'.fStart = r.fStart
  forced : r'.forced = (r.forced || forced)
  isOpen : r'.isOpen = !ended
  secs : r'.entries.map Entry.sec = r.entries.map Entry.sec

/-- The record that is OPEN once a sag start has opened its own continues to the end of the frame.
-/
theorem recordWork_getLast {s : State} {r : Record} (os : Four (List EntryOutcome)) (ended : Bool)
    (h : openRecord (if s.sagStarts then openNew s else s).records.list = some r) :
    ∃ r', (recordWork os ended s).records.list.getLast? = some r' ∧
      r.Continues s.tracker.marks.forcedReturn ended r' := by
  have htracker : (if s.sagStarts then openNew s else s).tracker = s.tracker := by
    split <;> simp
  unfold recordWork
  dsimp only
  generalize (if s.sagStarts then openNew s else s) = u at h htracker ⊢
  obtain ⟨es, hes, hsecs⟩ := openRecord_handAll_secs h os
  have hopen : r.isOpen = true := (openRecord_eq_some.1 h).2
  have hmarks : (handAll os u).tracker.marks = s.tracker.marks := by simp [htracker]
  have hupdated : openRecord
      ((handAll os u).updateOpenRecord (Record.updated (handAll os u))).records.list =
        some ({ r with entries := es }.updated (handAll os u)) := openRecord_updateOpen hes hopen
  have hentries : ({ r with entries := es }.updated (handAll os u)).entries.map Entry.sec =
      r.entries.map Entry.sec := by
    rw [← hsecs]
    simp only [Record.updated, Record.headed, List.map_map]
    rfl
  have hforced : ({ r with entries := es }.updated (handAll os u)).forced =
      (r.forced || s.tracker.marks.forcedReturn) := by
    rw [← hmarks]
    rfl
  cases ended with
  | false =>
    exact ⟨_, (openRecord_eq_some.1 hupdated).1, rfl, rfl, rfl, rfl, hforced, hopen, hentries⟩
  | true =>
    simp only [if_true, hupdated]
    exact ⟨_, closeRecord_getLast hupdated .recovered, rfl, rfl, rfl, rfl, hforced, rfl, hentries⟩

/-- The list of records at the end of a frame is the record unit's. -/
theorem records_acceptedFrame (c : StepClass) (f : SampleFrame) (s : State) :
    (fillOutSlot (atSlot c f s)).records = (recorded (judged c f s)).records := by
  simp only [fillOutSlot_leaves, atSlot, beforeSlot_eq]
  split <;> simp

/-- The record unit finds tracker, detector, store and the list as the judgement has left them. -/
theorem answered_leaves (s : State) :
    (answered s).link = s.link ∧ (answered s).tracker = s.tracker ∧
    (answered s).detector = s.detector ∧ (answered s).store = s.store ∧
    (answered s).records = s.records ∧ (answered s).loader = s.loader ∧
    (answered s).sagStarts = s.sagStarts := by
  have hloader : (answered s).loader = s.loader := by simp [answered]
  have hconf := (configured_inService_congr (congrArg Loader.tables hloader)).1
  refine ⟨by simp [answered], by simp [answered], by simp [answered], by simp [answered],
    by simp [answered], hloader, ?_⟩
  rw [State.sagStarts, State.sagStarts, hconf]
  simp [answered]

/-- Outside a sag-start frame the OPEN record continues to the end of the frame. -/
theorem record_acceptedFrame {c : StepClass} {f : SampleFrame} {s : State} {r : Record}
    (hstart : (judged c f s).sagStarts = false) (h : openRecord s.records.list = some r) :
    ∃ r', (fillOutSlot (atSlot c f s)).records.list.getLast? = some r' ∧
      r.Continues (judged c f s).tracker.marks.forcedReturn (endsIn c f s) r' := by
  obtain ⟨-, htracker, -, -, hrecords, -, hstarts⟩ := answered_leaves (judged c f s)
  have hkept : (judged c f s).records = s.records := by simp [judged, measured]
  rw [records_acceptedFrame, recorded, ← htracker]
  refine recordWork_getLast _ _ ?_
  rw [hstarts, hstart, if_neg Bool.false_ne_true, hrecords, hkept, h]

/-- The record that a sag start opens is the newest, and OPEN (R149). -/
theorem openRecord_openNew (s : State) :
    openRecord (openNew s).records.list = some (newRecord (closeRecord .superseded s)) := by
  refine openRecord_eq_some.2 ⟨?_, rfl⟩
  rw [openNew, records_raise]
  exact List.getLast?_concat

/-- The record opened in a sag-start frame continues to the end of the frame (R149). -/
theorem newRecord_acceptedFrame {c : StepClass} {f : SampleFrame} {s : State}
    (hstart : (judged c f s).sagStarts = true) :
    ∃ r', (fillOutSlot (atSlot c f s)).records.list.getLast? = some r' ∧
      (newRecord (answered (judged c f s))).Continues
        (judged c f s).tracker.marks.forcedReturn (endsIn c f s) r' := by
  obtain ⟨-, htracker, -, -, -, -, hstarts⟩ := answered_leaves (judged c f s)
  rw [records_acceptedFrame, recorded, ← htracker]
  refine recordWork_getLast _ _ ?_
  rw [hstarts, hstart, if_pos rfl, openRecord_openNew]
  rfl

/-- A sag start takes the next number for its record and reports it (R149). -/
theorem recordWork_of_sagStart {s : State} (h : s.sagStarts = true) (os : Four (List EntryOutcome))
    (ended : Bool) :
    (recordWork os ended s).records.nextSeq = s.records.nextSeq + 1 ∧
    (recordWork os ended s).management.alerts.get .sagStart = some ⟨s.records.nextSeq, 0⟩ := by
  have hseq : (openNew s).records.nextSeq = s.records.nextSeq + 1 := by simp [openNew]
  have halert : (openNew s).management.alerts.get .sagStart = some ⟨s.records.nextSeq, 0⟩ := by
    simp [openNew, Management.raised, newRecord]
  unfold recordWork
  dsimp only
  rw [h, if_pos rfl]
  (repeat' split)
  · refine ⟨by simp [handAll, hseq], ?_⟩
    rw [alerts_raise_of_ne _ (by decide)]
    simp [halert]
  · exact ⟨by simp [handAll, hseq], by simp [halert]⟩
  · exact ⟨by simp [handAll, hseq], by simp [halert]⟩

end Sys2Proof.Machine
end

section
/-! PROOFS. The detector in an accepted frame with valid levels, and the sag start, the sag end and
the return of the reference through all blocks (R28, R30, R32, R33, R47 to R54, R95, R96, R107,
R149). -/

namespace Sys2Proof.Machine

/-! ### The detector's judgement (R41) -/

/-- The Supply Threshold Table's fields, as the detector reads them. -/
theorem supplyFields_congr {s t : State} (h : t.loader = s.loader) :
    t.slowStart = s.slowStart ∧ t.slowEnd = s.slowEnd ∧ t.slowQualify = s.slowQualify ∧
    t.fastQualify = s.fastQualify ∧ t.endQualify = s.endQualify := by
  simp only [State.slowStart, State.slowEnd, State.slowQualify, State.fastQualify, State.endQualify,
    field_congr h, and_self]

/-- The detector as it judges a frame: its times advanced and its suspension updated (R45, R50). -/
def timedOf (c : StepClass) (f : SampleFrame) (s : State) : Detector :=
  suspend c.kind (tracked c f s).tracker.marks.crossingGood
    (elapse c.gap { s.detector with sagStart := false, sagEnd := false })

/-- What the updates leave for the judgement. -/
theorem timedOf_leaves (c : StepClass) (f : SampleFrame) (s : State) :
    (timedOf c f s).state = s.detector.state ∧ (timedOf c f s).slow = s.detector.slow ∧
    (timedOf c f s).fast = s.detector.fast ∧ (timedOf c f s).recovery = s.detector.recovery ∧
    (timedOf c f s).trigger = s.detector.trigger ∧
    (timedOf c f s).endingElapsed = s.detector.endingElapsed ∧
    (timedOf c f s).sagStart = false ∧ (timedOf c f s).sagEnd = false := by
  simp [timedOf]

/-- The suspension is the frame's (R45). -/
theorem timedOf_suspended (c : StepClass) (f : SampleFrame) (s : State) :
    (timedOf c f s).suspended = suspendedIn c f s := by
  simp [timedOf, suspendedIn, suspend_suspended]

/-- The elapsed frames advance in SAG and ENDING (R50). -/
theorem timedOf_elapsed (c : StepClass) (f : SampleFrame) {s : State}
    (h : s.detector.state = .sag ∨ s.detector.state = .ending) :
    (timedOf c f s).elapsed = min 4294967295 (s.detector.elapsed + c.gap + 1) := by
  have hsag : ({ s.detector with sagStart := false, sagEnd := false } : Detector).inSag = true := by
    rcases h with h | h <;> simp [Detector.inSag, h]
  simp only [timedOf, suspend_leaves, elapse_elapsed, hsag, if_true]

/-- In a configured frame with valid levels the detector judges them, and then the phase jump (R41).
-/
theorem detector_judged {c : StepClass} {f : SampleFrame} {s : State} {levels : Phases Nat}
    (hconf : s.configured = true) (hlevels : levelsOf c f s = some levels) :
    (judged c f s).detector = jump s.detector.state (tracked c f s).tracker.marks
      (judge s.previous (tracked c f s) levels (timedOf c f s)) := by
  have hvalid : validLevels (tracked c f s).levels = some levels := by
    rw [← hlevels, levelsOf, State.levels, State.levels]
    simp [tracked]
  have hdetector : (tracked c f s).detector = s.detector := by simp [tracked, measured]
  have hwork : (judged c f s).detector = (detectorWork s.previous c (tracked c f s)).detector := by
    simp [judged, judgeFrame, tracked]
  rw [hwork, detectorWork, if_pos ((configured_stages c f s).2.1.trans hconf)]
  simp only [detect, hvalid, hdetector]
  rfl

/-! ### The sag start (R47 to R49) -/

/-- A frame in which a counter qualifies starts a sag. -/
theorem qualify_of_trigger {slowQualify fastQualify : Nat} {d : Detector} {trigger : Trigger}
    (h : triggerOf (Phases.build fun p => decide (slowQualify ≤ d.slow.get p))
      (Phases.build fun p => decide (fastQualify ≤ d.fast.get p)) = some trigger) :
    qualify slowQualify fastQualify d =
      { d with
        state := .sag, trigger := some trigger
        involved :=
          involvedAtStart (Phases.build fun p => decide (slowQualify ≤ d.slow.get p)) trigger
        elapsed := 0, recovery := 0, fast := Phases.all 0, sagDuration := none, phaseJump := none
        sagStart := true } := by
  simp only [qualify, h]

/-- The involved set at a sag start: the slow-qualified phases, and the phase of a FAST trigger
(R49). -/
theorem involvedAtStart_iff (slowQ : Phases Bool) (trigger : Trigger) (p : Phase) :
    (involvedAtStart slowQ trigger).get p = true ↔ slowQ.get p = true ∨ trigger = ⟨.fast, p⟩ := by
  obtain ⟨kind, phase⟩ := trigger
  simp [involvedAtStart]

/-- The detector after a frame that begins in CLEAR or SUSPECT and in which a counter qualifies. -/
theorem detector_judged_of_trigger {c : StepClass} {f : SampleFrame} {s : State}
    {levels : Phases Nat} {trigger : Trigger} (hconf : s.configured = true)
    (hstate : s.detector.state = .clear ∨ s.detector.state = .suspect)
    (hlevels : levelsOf c f s = some levels)
    (htrigger : triggerOf (slowQualified levels s) (fastQualified c f s) = some trigger) :
    (judged c f s).detector.state = .sag ∧ (judged c f s).detector.trigger = some trigger ∧
    (judged c f s).detector.involved = involvedAtStart (slowQualified levels s) trigger ∧
    (judged c f s).detector.elapsed = 0 ∧ (judged c f s).detector.recovery = 0 ∧
    (judged c f s).detector.fast = ⟨0, 0, 0⟩ ∧ (judged c f s).detector.sagDuration = none ∧
    (judged c f s).detector.phaseJump = none ∧ (judged c f s).detector.sagStart = true := by
  obtain ⟨hstart, -, hslowQ, hfastQ, -⟩ := supplyFields_congr (loader_stages c f s).2.1
  obtain ⟨htimed, hslow, hfast, -⟩ := timedOf_leaves c f s
  have hjudge : judge s.previous (tracked c f s) levels (timedOf c f s) =
      qualify s.slowQualify s.fastQualify { timedOf c f s with
        slow := Phases.build fun p => slowCount s.slowQualify
          (levelBelow (levels.get p) s.slowStart) (s.detector.slow.get p)
        fast := Phases.build fun p => fastCount s.fastQualify
          (fastVerdict s.previous (suspendedIn c f s) (tracked c f s) p)
          (s.detector.fast.get p) } := by
    rcases hstate with h | h <;>
      simp only [judge, htimed, h, hstart, hslowQ, hfastQ, hslow, hfast, timedOf_suspended,
        Phases.get_build]
  have hjump : ∀ d : Detector, (jump s.detector.state (tracked c f s).tracker.marks d).phaseJump =
      d.phaseJump := by
    intro d
    rw [jump_phaseJump, if_neg]
    rcases hstate with h | h <;> simp [h]
  rw [detector_judged hconf hlevels, hjudge, qualify_of_trigger (trigger := trigger)]
  · simp only [jump_leaves, hjump, Phases.get_build, true_and, and_true]
    exact ⟨rfl, rfl⟩
  · simp only [Phases.get_build]
    exact htrigger

/-- At a sag start the reference is HELD, captured from the live angle when TRACKING (R28). -/
theorem captureHeld_held (t : Tracker) : (captureHeld t).ref = .held ∧
    (t.ref = .tracking → (captureHeld t).held = t.live ∧ (captureHeld t).incHeld = t.incLive) := by
  unfold captureHeld
  cases href : t.ref <;> simp [href]

/-- The episode signal stands when a sag starts and no episode ends (R107). -/
theorem episode_controllerWork {s : State} (h : (controllerWork s).ended = false) :
    (controllerWork s).state.controller.episode = (s.controller.episode || s.sagStarts) := by
  simp only [controllerWork] at h ⊢
  rw [h]
  simp [raiseEpisode]

/-- The record opened in a sag-start frame, in what the frame leaves (R149). -/
theorem newRecord_items (c : StepClass) (f : SampleFrame) (s : State) :
    let r := newRecord (answered (judged c f s))
    let t := fillOutSlot (atSlot c f s)
    r.seq = s.records.nextSeq ∧ r.startFrame = t.link.counter ∧ r.fStart = t.store.level ∧
    r.trigger = (judged c f s).detector.trigger.getD ⟨.slow, .A⟩ ∧
    r.entries.map Entry.sec = four.filter (fun k => s.inService k) := by
  obtain ⟨hlink, -, hdetector, hstore, hrecords, hloader, -⟩ := answered_leaves (judged c f s)
  have hservice := (configured_inService_congr
    (congrArg Loader.tables (hloader.trans (loader_stages c f s).2.2))).2
  have hjudged : (judged c f s).records = s.records := by simp [judged, measured]
  refine ⟨by simp [newRecord, hrecords, hjudged], ?_, ?_, by rw [newRecord, hdetector], ?_⟩
  · simp [newRecord, State.frameNumber, hlink, atSlot]
  · simp [newRecord, hstore, atSlot]
  · simp [newRecord, hservice, Entry.new, Function.comp_def]

/-- Settles O14: the detector enters SAG, so no episode ends and no table is applied in the frame;
tracker, episode signal and record follow the detector's result. -/
theorem sagStarts : Obligations.SagStarts := by
  intro c f s levels trigger hacc hconf hstate hlevels htrigger
  obtain ⟨hsag, htrig, hinvolved, helapsed, hrecovery, hfast, hduration, hjump, hstart⟩ :=
    detector_judged_of_trigger hconf hstate hlevels htrigger
  have hup : endsIn c f s = false := endsIn_of_notClear (by simp [hsag])
  have hslot : atSlot c f s = recorded (judged c f s) := beforeSlot_of_undeferred (.inr hup)
  obtain ⟨htracker, hdetector, hcontroller⟩ :=
    acceptedFrame_of_undeferred (c := c) (f := f) (.inr hup)
  have hstarts : (judged c f s).sagStarts = true := by
    simp [State.sagStarts, (configured_stages c f s).2.2, hconf, hstart]
  have hcaptured : (judged c f s).tracker = captureHeld (tracked c f s).tracker := by
    rw [tracker_judged hconf, hstart, if_pos rfl]
  obtain ⟨hheld, hcapture⟩ := captureHeld_held (tracked c f s).tracker
  obtain ⟨hseq, hframe, hlevel, hcause, hsecs⟩ := newRecord_items c f s
  obtain ⟨-, -, -, -, -, -, hanswered⟩ := answered_leaves (judged c f s)
  obtain ⟨hnext, halert⟩ := recordWork_of_sagStart (hanswered.trans hstarts)
    (controllerWork (judged c f s)).outcomes (controllerWork (judged c f s)).ended
  have hnumber : (answered (judged c f s)).records.nextSeq = s.records.nextSeq := hseq
  rw [hnumber] at hnext halert
  obtain ⟨r, hlast, hr⟩ := newRecord_acceptedFrame hstarts
  refine ⟨_, exec_sampleFrame_of_accepted hacc, ?_⟩
  rw [htracker, hdetector, hcaptured, hinvolved, hcontroller, records_acceptedFrame]
  refine ⟨hsag, htrig, involvedAtStart_iff _ trigger, helapsed, hrecovery, hfast, hduration, hjump,
    hheld, fun htracking => ?capture, ?episode, hnext, fillOutSlot_reports (hslot ▸ halert),
    ?record⟩
  case capture =>
    obtain ⟨hangle, hinc⟩ := hcapture
      ((ref_tracked_of_notSlewing hconf (by simp [htracking])).trans htracking)
    rw [hangle, hinc]
    simp
  case episode => simp [episode_controllerWork hup, hstarts]
  case record =>
    rw [← records_acceptedFrame]
    exact ⟨r, hlast, by rw [hr.isOpen, hup, Bool.not_false], hr.seq.trans hseq,
      hr.startFrame.trans hframe, hr.trigger.trans (by rw [hcause, htrig, Option.getD_some]),
      hr.fStart.trans hlevel, hr.secs.trans hsecs⟩

/-! ### The sag end (R52 to R54) -/

/-- A level is not below a threshold that it meets (00 section 4.3). -/
theorem levelBelow_eq_false (l t : Nat) : levelBelow l t = false ↔ t * 8192 ≤ l * 1000 := by
  unfold levelBelow
  rw [decide_eq_false_iff_not, Nat.not_lt]
  rfl

/-- The detector after a frame in which the recovery count reaches end_qualify. -/
theorem detector_judged_of_recovery {c : StepClass} {f : SampleFrame} {s : State}
    {levels : Phases Nat} (hconf : s.configured = true) (hlevels : levelsOf c f s = some levels)
    (hrecovered : ∀ p : Phase, s.slowEnd * 8192 ≤ levels.get p * 1000)
    (hcount : (s.detector.state = .ending ∧ s.endQualify ≤ s.detector.recovery + 1) ∨
      (s.detector.state = .sag ∧ s.endQualify ≤ 1)) :
    (judged c f s).detector.state = .clear ∧ (judged c f s).detector.recovery = 0 ∧
    (judged c f s).detector.slow = ⟨0, 0, 0⟩ ∧ (judged c f s).detector.fast = ⟨0, 0, 0⟩ ∧
    (judged c f s).detector.elapsed = min 4294967295 (s.detector.elapsed + c.gap + 1) ∧
    (judged c f s).detector.sagDuration = some (if s.detector.state = .sag
      then (judged c f s).detector.elapsed else s.detector.endingElapsed) ∧
    (judged c f s).detector.trigger = s.detector.trigger ∧
    (judged c f s).detector.sagStart = false ∧ (judged c f s).detector.sagEnd = true := by
  obtain ⟨-, hend, -, -, hqualify⟩ := supplyFields_congr (loader_stages c f s).2.1
  obtain ⟨htimed, -, -, hrecovery, htrigger, hending, hstart, -⟩ := timedOf_leaves c f s
  have hevery : everyPhase (Phases.build fun p =>
      !levelBelow (levels.get p) (tracked c f s).slowEnd) = true := by
    refine (everyPhase_iff _).2 fun p => ?_
    rw [Phases.get_build, hend, Bool.not_eq_true', levelBelow_eq_false]
    exact hrecovered p
  rw [detector_judged hconf hlevels]
  simp only [jump_leaves]
  rcases hcount with ⟨hstate, hreach⟩ | ⟨hstate, hreach⟩
  · have helapsed := timedOf_elapsed c f (.inr hstate)
    simp only [judge, htimed, hstate, hevery, if_true, recover, hqualify, hrecovery, if_pos hreach,
      endSag, helapsed, hending, htrigger, hstart]
    simp [Phases.all]
  · have helapsed := timedOf_elapsed c f (.inl hstate)
    simp only [judge, htimed, hstate, hevery, if_true, recover, hqualify, if_pos hreach,
      endSag, helapsed, htrigger, hstart]
    simp [Phases.all]

/-- A deferred application leaves the detector, or it reacts to its own table (R59, R164). -/
theorem detector_deferredApply (s : State) : (deferredApply s).detector = s.detector ∨
    (deferredApply s).detector = s.detector.retabled := by
  unfold deferredApply
  split
  · rw [detector_raise, applyTable, detector_reactTo]
    split <;> simp
  · exact .inl rfl
  · exact .inl rfl

/-- A detector that is CLEAR with its counters 0 is so when a table has been applied (R59, R164). -/
theorem clear_beforeSlot {s : State} (hstate : s.detector.state = .clear)
    (hrecovery : s.detector.recovery = 0) (hslow : s.detector.slow = ⟨0, 0, 0⟩)
    (hfast : s.detector.fast = ⟨0, 0, 0⟩) :
    (beforeSlot s).detector.state = .clear ∧ (beforeSlot s).detector.recovery = 0 ∧
    (beforeSlot s).detector.slow = ⟨0, 0, 0⟩ ∧ (beforeSlot s).detector.fast = ⟨0, 0, 0⟩ := by
  have hslot : (beforeSlot s).detector = s.detector ∨
      (beforeSlot s).detector = s.detector.retabled := by
    obtain ⟨-, hrecorded, -⟩ := recorded_leaves s
    rw [beforeSlot_eq]
    split
    · rw [← hrecorded]
      exact detector_deferredApply _
    · exact .inl hrecorded
  rcases hslot with h | h <;> rw [h]
  · exact ⟨hstate, hrecovery, hslow, hfast⟩
  · simp [Detector.retabled, hstate, Phases.all]

/-- Under RESTORE at FULL the return slews to the live angle, and otherwise the bypass closes (R95).
-/
theorem injectingAtSagEnd_cases (v : SectionView) (x : Section) :
    (v.strategy = .restore → x.service = .full →
      injectingAtSagEnd v x = { x with state := .returningSlewing }) ∧
    (¬(v.strategy = .restore ∧ x.service = .full) → injectingAtSagEnd v x = x.startClosing) := by
  unfold injectingAtSagEnd
  cases v.strategy <;> cases x.service <;> simp

/-- Settles O15: the detector goes CLEAR; a HELD reference starts slewing; a section that goes on
holding the episode keeps every table from being applied, and with no load PENDING none is. -/
theorem sagEnds : Obligations.SagEnds := by
  intro c f s levels hacc hconf hlevels hrecovered hcount
  obtain ⟨hstate, hrecovery, hslow, hfast, helapsed, hduration, htrigger, hstart, hend⟩ :=
    detector_judged_of_recovery hconf hlevels hrecovered hcount
  obtain ⟨hclear, hzero, hnoSlow, hnoFast⟩ := clear_beforeSlot hstate hrecovery hslow hfast
  have hdetector :
      (fillOutSlot (atSlot c f s)).detector = (beforeSlot (judged c f s)).detector := by
    simp [atSlot]
  refine ⟨_, exec_sampleFrame_of_accepted hacc, ?_⟩
  simp only [hdetector, beforeSlot_leaves]
  refine ⟨hclear, hzero, hnoSlow, hnoFast, helapsed, hduration, htrigger, fun hheld => ?slew,
    fun k hpend hwatching hready hbridge hclosed => ?watching, fun k hinjecting hfree => ?injecting⟩
  case slew =>
    have href : (tracked c f s).tracker.ref = .held :=
      (ref_tracked_of_notSlewing hconf (by simp [hheld])).trans hheld
    simp [atSlot, tracker_judged hconf, hstart, hend, startSlew, href]
  case watching =>
    rw [sec_acceptedFrame (.inl hpend) k,
      movedOf_watching hconf hwatching hready hbridge hclosed hend]
    exact ⟨rfl, rfl⟩
  case injecting =>
    obtain ⟨hreturns, hcloses⟩ := injectingAtSagEnd_cases (viewOf c f s k) (decidingOf c f s k)
    obtain ⟨-, -, -, hstrategy⟩ := viewOf_events (c := c) (f := f) hconf k
    obtain ⟨-, hservice, -⟩ := decidingOf_leaves c f s k
    rw [hstrategy, hservice] at hreturns hcloses
    have hmoved := movedOf_injecting hconf hinjecting hfree hend
    refine ⟨fun hrestore hfull => ?_,
      fun hother => sec_acceptedFrame_of_startClosing (hmoved.trans (hcloses hother))⟩
    have hslews := hmoved.trans (hreturns hrestore hfull)
    rw [sec_acceptedFrame_of_holdsEpisode (by rw [hslews]; rfl), hslews]

/-! ### The return of the reference (R32, R33, R96) -/

/-- A frame in which the reference settles, or is forced, is TRACKING at its end, and closes the
sections that have been slewing (R32, R33, R96). -/
theorem becomesTracking_acceptedFrame {c : StepClass} {f : SampleFrame} {s : State}
    (hconf : s.configured = true) (hslew : s.tracker.ref = .slewing)
    (hstart : (judged c f s).detector.sagStart = false)
    (hback : (settlesIn c f s || forcedIn c f s) = true) :
    (fillOutSlot (atSlot c f s)).tracker.ref = .tracking ∧
    ∀ k : Fin 4, (s.sec k).state = .returningSlewing → undisturbed c f s k = true →
      ((fillOutSlot (atSlot c f s)).sec k).state = .returningClosing ∧
      ((fillOutSlot (atSlot c f s)).sec k).confirm = .closing ∧
      ((fillOutSlot (atSlot c f s)).sec k).confirmTimer = 0 := by
  obtain ⟨-, -, -, -, -, -, hmarks⟩ := live_judged (c := c) (f := f) hconf
  refine ⟨?_, fun k hstate hfree => sec_acceptedFrame_of_startClosing
    (movedOf_slewing hconf hstate hfree hstart ?_)⟩
  · simp [atSlot, tracker_judged_of_slewing hconf hslew hstart,
      tracker_tracked_of_slewing hconf hslew, hback]
  · simp [hmarks, marksIn, hslew, hback]

/-- Settles O13: settling and the forced return are the two ways to become TRACKING. -/
theorem referenceReturns : Obligations.ReferenceReturns := by
  intro c f s hacc hconf hslew hstart
  refine ⟨fun hsettles => ?settled, fun hnot hdue => ?forced⟩
  case settled =>
    obtain ⟨htracking, hsecs⟩ :=
      becomesTracking_acceptedFrame hconf hslew hstart (by simp [hsettles])
    exact ⟨_, exec_sampleFrame_of_accepted hacc, htracking, hsecs⟩
  case forced =>
    have hforced : forcedIn c f s = true := by simp [forcedIn, hslew, hnot, hdue]
    obtain ⟨htracking, hsecs⟩ :=
      becomesTracking_acceptedFrame hconf hslew hstart (by simp [hforced])
    refine ⟨_, exec_sampleFrame_of_accepted hacc, htracking,
      by rw [Tracker.refAngle, if_pos htracking], fun r hr => ?_, hsecs⟩
    obtain ⟨-, -, -, -, -, -, hmarks⟩ := live_judged (c := c) (f := f) hconf
    have hnoStart : (judged c f s).sagStarts = false := by simp [State.sagStarts, hstart]
    obtain ⟨r', hlast, hcontinues⟩ := record_acceptedFrame hnoStart hr
    refine ⟨r', hlast, hcontinues.seq, ?_⟩
    rw [hcontinues.forced, hmarks]
    simp [marksIn, hforced]

end Sys2Proof.Machine
end

section
/-! PROOFS. The sag detector in every accepted frame: what its judgement comes to by the state at the
start of the frame, its times, and the hold without valid levels (R41, R42, R45 to R55). -/

namespace Sys2Proof.Machine

/-! ### Qualification and recovery (R47 to R49, R52 to R54) -/

/-- Sag start or not, the updated slow counters, the suspension and the sag-end mark stand. -/
@[simp] theorem qualify_leaves (slowQualify fastQualify : Nat) (d : Detector) :
    (qualify slowQualify fastQualify d).slow = d.slow ∧
    (qualify slowQualify fastQualify d).suspended = d.suspended ∧
    (qualify slowQualify fastQualify d).sagEnd = d.sagEnd := by
  unfold qualify
  dsimp only
  (repeat' split) <;> simp

/-- No sag starts exactly when every counter stays below its qualification (R47, R48). -/
theorem triggerOf_counters_eq_none (slowQualify fastQualify : Nat) (slow fast : Phases Nat) :
    triggerOf (Phases.build fun p => decide (slowQualify ≤ slow.get p))
      (Phases.build fun p => decide (fastQualify ≤ fast.get p)) = none ↔
    ∀ p, slow.get p < slowQualify ∧ fast.get p < fastQualify := by
  simp [triggerOf_eq_none]

/-- While every counter stays below its qualification, only the state is judged: SUSPECT exactly when a
counter is above 0, and CLEAR otherwise (R47). -/
theorem qualify_of_quiet {slowQualify fastQualify : Nat} {d : Detector}
    (h : ∀ p, d.slow.get p < slowQualify ∧ d.fast.get p < fastQualify) :
    ∃ st, qualify slowQualify fastQualify d = { d with state := st } ∧
      (st = .suspect ↔ ∃ p, 0 < d.slow.get p ∨ 0 < d.fast.get p) ∧
      (st = .clear ↔ ∀ p, d.slow.get p = 0 ∧ d.fast.get p = 0) := by
  have hrun : anyPhase (Phases.build fun p => d.slow.get p != 0 || d.fast.get p != 0) = true ↔
      ∃ p, 0 < d.slow.get p ∨ 0 < d.fast.get p := by
    simp [anyPhase_iff, Nat.pos_iff_ne_zero]
  have hzero : (∀ p, d.slow.get p = 0 ∧ d.fast.get p = 0) ↔
      ¬∃ p, 0 < d.slow.get p ∨ 0 < d.fast.get p := by simp
  rw [hzero, ← hrun]
  simp only [qualify, (triggerOf_counters_eq_none _ _ _ _).2 h]
  split
  · rename_i hsome
    exact ⟨_, rfl, by simp [hsome], by simp [hsome]⟩
  · rename_i hnone
    exact ⟨_, rfl, by simp [hnone], by simp [hnone]⟩

/-- Where no sag starts every counter stays below its qualification (R48). -/
theorem below_of_qualify_noStart {slowQualify fastQualify : Nat} {d : Detector}
    (h : (qualify slowQualify fastQualify d).sagStart = false) (p : Phase) :
    d.slow.get p < slowQualify ∧ d.fast.get p < fastQualify := by
  revert p
  rw [← triggerOf_counters_eq_none, Option.eq_none_iff_forall_not_mem]
  intro trigger htrigger
  simp [qualify_of_trigger htrigger] at h

/-- A sag starts exactly when a counter qualifies (R47, R48). -/
theorem qualify_sagStart {slowQualify fastQualify : Nat} {d : Detector} (h : d.sagStart = false) :
    (qualify slowQualify fastQualify d).sagStart = true ↔
      ∃ p, slowQualify ≤ d.slow.get p ∨ fastQualify ≤ d.fast.get p := by
  have hnoStart : (qualify slowQualify fastQualify d).sagStart = false ↔
      ∀ p, d.slow.get p < slowQualify ∧ d.fast.get p < fastQualify := by
    refine ⟨below_of_qualify_noStart, fun hquiet => ?_⟩
    obtain ⟨st, hqualify, -⟩ := qualify_of_quiet hquiet
    rw [hqualify, h]
  rw [← Bool.not_eq_false, hnoStart]
  simp only [Classical.not_forall, Classical.not_and_iff_not_or_not, Nat.not_lt]

/-- A recovered frame leaves the trigger, the involved set and the times, and no sag starts in it. -/
@[simp] theorem recover_leaves (endQualify n : Nat) (d : Detector) :
    (recover endQualify n d).suspended = d.suspended ∧
    (recover endQualify n d).trigger = d.trigger ∧ (recover endQualify n d).involved = d.involved ∧
    (recover endQualify n d).elapsed = d.elapsed ∧
    (recover endQualify n d).phaseJump = d.phaseJump ∧
    (recover endQualify n d).sagStart = d.sagStart := by
  unfold recover
  split <;> simp [endSag]

/-- A recovered frame that falls short of end_qualify is one of ENDING (R52). -/
theorem recover_of_lt {endQualify n : Nat} (h : n < endQualify) (d : Detector) :
    recover endQualify n d = { d with state := .ending, recovery := n } := if_neg (Nat.not_le.2 h)

/-- Until the sag end a recovered frame changes the state and the recovery count alone (R52 to R54). -/
theorem recover_of_noEnd {endQualify n : Nat} {d : Detector}
    (h : (recover endQualify n d).sagEnd = false) :
    recover endQualify n d = { d with state := .ending, recovery := n } := by
  refine recover_of_lt (Nat.lt_of_not_le fun hreach => ?_) d
  simp [recover, hreach, endSag] at h

/-! ### The counters of a frame (R43, R44, R46, R47, R51) -/

/-- The slow counter of a phase after a frame with levels L. -/
def slowIn (levels : Phases Nat) (s : State) (p : Phase) : Nat :=
  slowCount s.slowQualify (levelBelow (levels.get p) s.slowStart) (s.detector.slow.get p)

/-- The fast counter of a phase after a frame that began in CLEAR or SUSPECT. -/
def fastIn (c : StepClass) (f : SampleFrame) (s : State) (p : Phase) : Nat :=
  fastCount s.fastQualify (fastVerdict s.previous (suspendedIn c f s) (tracked c f s) p)
    (s.detector.fast.get p)

/-- The involved set, joined by the phases whose slow counter qualifies in the frame (R51, log 34). -/
def joinedIn (levels : Phases Nat) (s : State) : Phases Bool :=
  Phases.build fun p => s.detector.involved.get p || decide (s.slowQualify ≤ slowIn levels s p)

/-- Whether every phase has recovered in a frame with levels L (R52). -/
def recoveredIn (levels : Phases Nat) (s : State) : Bool :=
  everyPhase (Phases.build fun p => !levelBelow (levels.get p) s.slowEnd)

/-- A level is below a threshold that it does not meet (00 section 4.3). -/
theorem levelBelow_eq_true (l t : Nat) : levelBelow l t = true ↔ l * 1000 < t * 8192 := by
  rw [← Bool.not_eq_false, levelBelow_eq_false, Nat.not_le]

/-- A slow counter counts the frames below slow_start in a row (R46, R47). -/
theorem slowIn_eq (levels : Phases Nat) (s : State) (p : Phase) :
    slowIn levels s p = if levels.get p * 1000 < s.slowStart * 8192 then
      min s.slowQualify (s.detector.slow.get p + 1) else 0 := by
  simp only [slowIn, slowCount, levelBelow_eq_true]

/-- A phase joins the involved set when its slow counter qualifies (R51). -/
theorem joinedIn_iff (levels : Phases Nat) (s : State) (p : Phase) :
    (joinedIn levels s).get p = true ↔
      s.detector.involved.get p = true ∨ s.slowQualify ≤ slowIn levels s p := by
  simp [joinedIn]

/-- All phases have recovered when each level meets slow_end (R52). -/
theorem recoveredIn_iff (levels : Phases Nat) (s : State) :
    recoveredIn levels s = true ↔ ∀ p : Phase, s.slowEnd * 8192 ≤ levels.get p * 1000 := by
  simp only [recoveredIn, everyPhase_iff, Phases.get_build, Bool.not_eq_true', levelBelow_eq_false]

/-! ### The judgement by the state at the start of the frame (R47 to R54) -/

/-- In CLEAR and SUSPECT both counters are updated and then qualified (R47). -/
theorem judge_of_watching {c : StepClass} {f : SampleFrame} {s : State} (levels : Phases Nat)
    (hstate : s.detector.state = .clear ∨ s.detector.state = .suspect) :
    judge s.previous (tracked c f s) levels (timedOf c f s) =
      qualify s.slowQualify s.fastQualify { timedOf c f s with
        slow := Phases.build (slowIn levels s), fast := Phases.build (fastIn c f s) } := by
  obtain ⟨hstart, -, hslowQ, hfastQ, -⟩ := supplyFields_congr (loader_stages c f s).2.1
  obtain ⟨htimed, hslow, hfast, -⟩ := timedOf_leaves c f s
  rcases hstate with h | h <;>
    simp only [judge, htimed, h, hstart, hslowQ, hfastQ, hslow, hfast, timedOf_suspended,
      Phases.get_build] <;> rfl

/-- In SAG phases join the involved set, and a recovered frame begins an ENDING run (R51, R52). -/
theorem judge_of_sag {c : StepClass} {f : SampleFrame} {s : State} (levels : Phases Nat)
    (hstate : s.detector.state = .sag) :
    judge s.previous (tracked c f s) levels (timedOf c f s) =
      if recoveredIn levels s then
        recover s.endQualify 1 { timedOf c f s with
          slow := Phases.build (slowIn levels s), involved := joinedIn levels s
          endingElapsed := (timedOf c f s).elapsed }
      else { timedOf c f s with
        slow := Phases.build (slowIn levels s), involved := joinedIn levels s } := by
  obtain ⟨hstart, hend, hslowQ, -, hendQ⟩ := supplyFields_congr (loader_stages c f s).2.1
  obtain ⟨htimed, hslow, -⟩ := timedOf_leaves c f s
  have hinvolved : (timedOf c f s).involved = s.detector.involved := by simp [timedOf]
  simp only [judge, htimed, hstate, hstart, hend, hslowQ, hendQ, hslow, hinvolved, Phases.get_build]
  rfl

/-- In ENDING a recovered frame goes on with the run, and any other returns to SAG, where phases may
join (R53, log 34). -/
theorem judge_of_ending {c : StepClass} {f : SampleFrame} {s : State} (levels : Phases Nat)
    (hstate : s.detector.state = .ending) :
    judge s.previous (tracked c f s) levels (timedOf c f s) =
      if recoveredIn levels s then
        recover s.endQualify (s.detector.recovery + 1) { timedOf c f s with
          slow := Phases.build (slowIn levels s) }
      else { timedOf c f s with
        state := .sag, recovery := 0
        slow := Phases.build (slowIn levels s), involved := joinedIn levels s } := by
  obtain ⟨hstart, hend, hslowQ, -, hendQ⟩ := supplyFields_congr (loader_stages c f s).2.1
  obtain ⟨htimed, hslow, -, hrecovery, -⟩ := timedOf_leaves c f s
  have hinvolved : (timedOf c f s).involved = s.detector.involved := by simp [timedOf]
  simp only [judge, htimed, hstate, hstart, hend, hslowQ, hendQ, hslow, hrecovery, hinvolved,
    Phases.get_build]
  rfl

/-- The judgement never touches the suspension (R45). -/
theorem judge_suspended (prev : Previous) (s : State) (levels : Phases Nat) (d : Detector) :
    (judge prev s levels d).suspended = d.suspended := by
  unfold judge
  cases d.state <;> dsimp only
  case clear | suspect => simp
  case sag | ending => split <;> simp

/-- Unless a sag starts the judgement leaves elapsed frames, phase jump and trigger (R47, R51 to
R54). -/
theorem judge_leaves_of_noStart {prev : Previous} {s : State} {levels : Phases Nat} {d : Detector}
    (h : (judge prev s levels d).sagStart = false) :
    (judge prev s levels d).elapsed = d.elapsed ∧
    (judge prev s levels d).phaseJump = d.phaseJump ∧
    (judge prev s levels d).trigger = d.trigger := by
  unfold judge at h ⊢
  cases hstate : d.state <;> simp only [hstate] at h ⊢
  case clear | suspect =>
    obtain ⟨st, hqualify, -⟩ := qualify_of_quiet (below_of_qualify_noStart h)
    rw [hqualify]
    exact ⟨rfl, rfl, rfl⟩
  case sag | ending => split <;> simp

/-- No sag starts in SAG or ENDING (R48). -/
theorem judge_sagStart_of_inSag {prev : Previous} {s : State} {levels : Phases Nat} {d : Detector}
    (h : d.state = .sag ∨ d.state = .ending) :
    (judge prev s levels d).sagStart = d.sagStart := by
  unfold judge
  rcases h with h | h <;> simp only [h] <;> split <;> simp

/-- Until the sag end the fast counters and the sag duration stand in SAG and ENDING, and the slow
counters follow the levels (R51 to R53). -/
theorem judge_counters_of_inSag {c : StepClass} {f : SampleFrame} {s : State} {levels : Phases Nat}
    (h : s.detector.state = .sag ∨ s.detector.state = .ending)
    (hend : (judge s.previous (tracked c f s) levels (timedOf c f s)).sagEnd = false) :
    (judge s.previous (tracked c f s) levels (timedOf c f s)).fast = s.detector.fast ∧
    (judge s.previous (tracked c f s) levels (timedOf c f s)).sagDuration =
      s.detector.sagDuration ∧
    (judge s.previous (tracked c f s) levels (timedOf c f s)).slow =
      Phases.build (slowIn levels s) := by
  have hkept : (timedOf c f s).fast = s.detector.fast ∧
      (timedOf c f s).sagDuration = s.detector.sagDuration := by simp [timedOf]
  rcases h with h | h
  case' inl => rw [judge_of_sag levels h] at hend ⊢
  case' inr => rw [judge_of_ending levels h] at hend ⊢
  all_goals
    cases hrecovered : recoveredIn levels s
    · simpa [hrecovered] using hkept
    · simp only [hrecovered, if_true] at hend ⊢
      simpa [recover_of_noEnd hend] using hkept

/-! ### The detector's times and the hold (R42, R45, R50, R55) -/

/-- What the detector finds in the tracker's first part stands after the frame (R20, R41). -/
theorem lock_live_marks_judged {c : StepClass} {f : SampleFrame} {s : State}
    (h : s.configured = true) :
    (judged c f s).tracker.lock = (tracked c f s).tracker.lock ∧
    (judged c f s).tracker.live = (tracked c f s).tracker.live ∧
    (judged c f s).tracker.marks = (tracked c f s).tracker.marks := by
  rw [tracker_judged h]
  (repeat' split) <;> simp

/-- After its work on the frame no later block of the judgement touches the detector (R41). -/
theorem detector_judged_eq_work (c : StepClass) (f : SampleFrame) (s : State) :
    (judged c f s).detector = (detectorWork s.previous c (tracked c f s)).detector := by
  simp [judged, judgeFrame, tracked]

/-- An engine that is not configured leaves the detector alone (R41). -/
theorem detector_judged_of_unconfigured {c : StepClass} {f : SampleFrame} {s : State}
    (h : s.configured = false) : (judged c f s).detector = s.detector := by
  rw [detector_judged_eq_work, detectorWork, (configured_stages c f s).2.1, h]
  simp [tracked, measured]

/-- Without valid levels a configured frame updates the times and the suspension, and then the phase
jump (R41, R42). -/
theorem detector_judged_of_noLevels {c : StepClass} {f : SampleFrame} {s : State}
    (hconf : s.configured = true) (hlevels : levelsOf c f s = none) :
    (judged c f s).detector =
      jump s.detector.state (tracked c f s).tracker.marks (timedOf c f s) := by
  have hvalid : validLevels (tracked c f s).levels = none := by
    rw [← hlevels, levelsOf, State.levels, State.levels]
    simp [tracked]
  have hdetector : (tracked c f s).detector = s.detector := by simp [tracked, measured]
  rw [detector_judged_eq_work, detectorWork, if_pos ((configured_stages c f s).2.1.trans hconf)]
  simp only [detect, hvalid, hdetector]
  rfl

/-- Outside SAG and ENDING the elapsed frames stand (R50). -/
theorem timedOf_elapsed_of_watching (c : StepClass) (f : SampleFrame) {s : State}
    (h : s.detector.state = .clear ∨ s.detector.state = .suspect) :
    (timedOf c f s).elapsed = s.detector.elapsed := by
  rcases h with h | h <;> simp [timedOf, elapse_elapsed, Detector.inSag, h]

/-- The suspension after a frame: set by a break, cleared by a good crossing (R45). -/
theorem suspendedIn_iff {c : StepClass} {f : SampleFrame} {s : State} (hconf : s.configured = true) :
    suspendedIn c f s = true ↔ c.kind = .brk ∨ (s.detector.suspended = true ∧
      ¬(crossingIn c f s = true ∧ (errorIn c s).natAbs ≤ s.lockWindow)) := by
  obtain ⟨-, -, hmarks⟩ := lock_live_marks_judged (c := c) (f := f) hconf
  obtain ⟨-, -, -, -, -, -, hfirst⟩ := live_judged (c := c) (f := f) hconf
  rw [suspendedIn, suspend_suspended, ← hmarks, hfirst]
  simp only [marksIn, crossingIsGood]
  cases crossingIn c f s <;> simp [and_comm]

/-- The detector's suspension, elapsed frames and phase jump after a configured frame, with valid
levels or without (R45, R50, R55). -/
theorem times_judged {c : StepClass} {f : SampleFrame} {s : State} (hconf : s.configured = true) :
    (judged c f s).detector.suspended = suspendedIn c f s ∧
    (s.detector.state = .sag ∨ s.detector.state = .ending →
      (judged c f s).detector.sagStart = false) ∧
    ((judged c f s).detector.sagStart = false →
      (judged c f s).detector.elapsed = (timedOf c f s).elapsed ∧
      (judged c f s).detector.trigger = s.detector.trigger ∧
      (judged c f s).detector.phaseJump =
        (jump s.detector.state (marksIn c f s) s.detector).phaseJump) := by
  obtain ⟨-, -, hmarks⟩ := lock_live_marks_judged (c := c) (f := f) hconf
  obtain ⟨-, -, -, -, -, -, hfirst⟩ := live_judged (c := c) (f := f) hconf
  obtain ⟨hstate, -, -, -, htrigger, -, hstart, -⟩ := timedOf_leaves c f s
  have hjump : (timedOf c f s).phaseJump = s.detector.phaseJump := by simp [timedOf]
  cases hlevels : levelsOf c f s with
  | none =>
    rw [detector_judged_of_noLevels hconf hlevels, ← hmarks, hfirst]
    simp only [jump_leaves, jump_phaseJump, timedOf_suspended, hstart, htrigger, hjump]
    simp
  | some levels =>
    rw [detector_judged hconf hlevels, ← hmarks, hfirst]
    simp only [jump_leaves, jump_phaseJump, judge_suspended, timedOf_suspended]
    refine ⟨trivial, fun hsag => ?_, fun hnone => ?_⟩
    · rw [judge_sagStart_of_inSag (by rwa [hstate]), hstart]
    · obtain ⟨helapsed, hsame, hcause⟩ := judge_leaves_of_noStart hnone
      exact ⟨helapsed, hcause.trans htrigger, by rw [hsame, hjump]⟩

/-- Settles O16: the times of the frame by their own updates, and the hold by what the detector leaves
out without valid levels. -/
theorem detectorTimesAndHolds : Obligations.DetectorTimesAndHolds := by
  intro c f s hacc hpend
  obtain ⟨-, hdetector, -⟩ := acceptedFrame_of_undeferred (c := c) (f := f) (.inl hpend)
  refine ⟨_, exec_sampleFrame_of_accepted hacc, ?_⟩
  rw [hdetector]
  refine ⟨detector_judged_of_unconfigured, fun hconf => ?_⟩
  obtain ⟨hsuspended, hnoStart, htimes⟩ := times_judged (c := c) (f := f) hconf
  refine ⟨by rw [hsuspended]; exact suspendedIn_iff hconf, fun hsag => ?inSag,
    fun hwatching hnone => ?watching, fun hlevels => ?hold⟩
  case inSag =>
    obtain ⟨helapsed, -, hjump⟩ := htimes (hnoStart hsag)
    rw [helapsed, timedOf_elapsed c f hsag, hjump, jump_phaseJump]
    exact ⟨rfl, fun hcross => if_pos ⟨hsag, hcross⟩,
      fun hquiet => if_neg (by simp [marksIn, hquiet])⟩
  case watching =>
    obtain ⟨helapsed, -, hjump⟩ := htimes hnone
    rw [helapsed, timedOf_elapsed_of_watching c f hwatching, hjump, jump_phaseJump]
    exact ⟨rfl, if_neg (by rcases hwatching with h | h <;> simp [h])⟩
  case hold =>
    rw [detector_judged_of_noLevels hconf hlevels]
    simp [timedOf]

end Sys2Proof.Machine
end

section
/-! PROOFS. The sag detector in an accepted frame with valid levels: the fast counters as the state after
the frame shows them, and the detector by the state at the start of the frame (R43, R44, R46 to R54). -/

namespace Sys2Proof.Machine

/-! ### The fast counters (R43, R44) -/

/-- What the fast detector reads of a frame: the Supply Threshold Table in use, and the lock, the live
angle and the samples that stand after the frame. -/
theorem fastInputs_tracked {c : StepClass} {f : SampleFrame} {s : State} (hconf : s.configured = true) :
    (tracked c f s).fastEnable = s.fastEnable ∧ (tracked c f s).fastDev = s.fastDev ∧
    (judged c f s).tracker.lock = (tracked c f s).tracker.lock ∧
    (judged c f s).tracker.live = (tracked c f s).tracker.live ∧
    ∀ p, (fillOutSlot (atSlot c f s)).supplyValue p = (tracked c f s).supplyValue p := by
  obtain ⟨hlock, hlive, -⟩ := lock_live_marks_judged (c := c) (f := f) hconf
  have hfield := field_congr (loader_stages c f s).2.1
  have hfront : (tracked c f s).front = (measured c f s).front := by simp [tracked]
  refine ⟨by simp only [State.fastEnable, hfield], by simp only [State.fastDev, hfield], hlock, hlive,
    fun p => ?_⟩
  simp only [State.supplyValue, State.values, (link_front_acceptedFrame c f s).2, hfront]

/-- A fast counter is 0 while fast_enable is 0 or the tracker is not LOCKED (R43, log 37). -/
theorem fastIn_of_off {c : StepClass} {f : SampleFrame} {s : State} (hconf : s.configured = true)
    (h : s.fastEnable = false ∨ (judged c f s).tracker.lock ≠ .locked) (p : Phase) :
    fastIn c f s p = 0 := by
  obtain ⟨henable, -, hlock, -⟩ := fastInputs_tracked (c := c) (f := f) hconf
  rw [← henable, hlock] at h
  exact fastCount_of_off h _ _ p _ _

/-- An enabled fast counter of a LOCKED tracker is kept while suspended (R43). -/
theorem fastIn_of_suspended {c : StepClass} {f : SampleFrame} {s : State}
    (hconf : s.configured = true)
    (h : ¬(s.fastEnable = false ∨ (judged c f s).tracker.lock ≠ .locked))
    (hsuspended : suspendedIn c f s = true) (p : Phase) :
    fastIn c f s p = s.detector.fast.get p := by
  obtain ⟨henable, -, hlock, -⟩ := fastInputs_tracked (c := c) (f := f) hconf
  rw [← henable, hlock, not_or, Bool.not_eq_false, Classical.not_not] at h
  obtain ⟨hon, hlocked⟩ := h
  rw [fastIn, hsuspended, fastCount_of_suspended hon hlocked]

/-- An evaluated fast counter counts the deviations beyond fast_dev in a row (R44, R47). -/
theorem fastCount_of_judged (qualify n devPm : Nat) (expected z : Int) :
    fastCount qualify (.judged (fastLow devPm expected z)) n =
      if devPm * 8192 < (expected - z).natAbs * 1000 then min qualify (n + 1) else 0 := by
  by_cases h : devPm * 8192 < (expected - z).natAbs * 1000 <;>
    simp [fastCount, fastLow, Config.nominal, h]

/-- Free of the suspension it is kept without a previous level, and else counts the frames in a row
whose sample deviates from the prediction by more than fast_dev (R43, R44). -/
theorem fastIn_of_free {c : StepClass} {f : SampleFrame} {s : State} (hconf : s.configured = true)
    (h : ¬(s.fastEnable = false ∨ (judged c f s).tracker.lock ≠ .locked))
    (hfree : suspendedIn c f s = false) (p : Phase) :
    (s.levels.supply.get p = none → fastIn c f s p = s.detector.fast.get p) ∧
    ∀ l, s.levels.supply.get p = some l → fastIn c f s p =
      if s.fastDev * 8192 < (expectedSample l (judged c f s).tracker.live p
          - (fillOutSlot (atSlot c f s)).supplyValue p).natAbs * 1000 then
        min s.fastQualify (s.detector.fast.get p + 1) else 0 := by
  obtain ⟨henable, hdev, hlock, hlive, hvalue⟩ := fastInputs_tracked (c := c) (f := f) hconf
  rw [← henable, hlock, not_or, Bool.not_eq_false, Classical.not_not] at h
  obtain ⟨hon, hlocked⟩ := h
  refine ⟨fun hnone => ?_, fun l hsome => ?_⟩
  · simp [fastIn, fastVerdict, hon, hlocked, hfree, State.previous, hnone, fastCount]
  · rw [hlive, hvalue, ← hdev]
    have hverdict : fastVerdict s.previous (suspendedIn c f s) (tracked c f s) p =
        .judged (fastLow (tracked c f s).fastDev (expectedSample l (tracked c f s).tracker.live p)
          ((tracked c f s).supplyValue p)) := by
      simp [fastVerdict, hon, hlocked, hfree, State.previous, hsome]
    rw [fastIn, hverdict, fastCount_of_judged]

/-! ### The judged detector by the state at the start of the frame (R47 to R54) -/

/-- A frame that begins in CLEAR or SUSPECT (R47, R48). -/
theorem detector_judged_of_watching {c : StepClass} {f : SampleFrame} {s : State}
    {levels : Phases Nat} (hconf : s.configured = true) (hlevels : levelsOf c f s = some levels)
    (hstate : s.detector.state = .clear ∨ s.detector.state = .suspect) :
    ((judged c f s).detector.sagStart = true ↔
      ∃ p, s.slowQualify ≤ slowIn levels s p ∨ s.fastQualify ≤ fastIn c f s p) ∧
    (judged c f s).detector.slow = Phases.build (slowIn levels s) ∧
    (judged c f s).detector.sagEnd = false ∧
    ((judged c f s).detector.sagStart = false →
      (judged c f s).detector.fast = Phases.build (fastIn c f s) ∧
      ((judged c f s).detector.state = .suspect ↔
        ∃ p, 0 < slowIn levels s p ∨ 0 < fastIn c f s p) ∧
      ((judged c f s).detector.state = .clear ↔ ∀ p, slowIn levels s p = 0 ∧ fastIn c f s p = 0) ∧
      (judged c f s).detector.involved = s.detector.involved ∧
      (judged c f s).detector.sagDuration = s.detector.sagDuration) := by
  obtain ⟨-, -, -, -, -, -, hstart, hend⟩ := timedOf_leaves c f s
  have hkept : (timedOf c f s).involved = s.detector.involved ∧
      (timedOf c f s).sagDuration = s.detector.sagDuration := by simp [timedOf]
  rw [detector_judged hconf hlevels, judge_of_watching levels hstate]
  simp only [jump_leaves, qualify_leaves]
  refine ⟨by simp only [qualify_sagStart, hstart, Phases.get_build], trivial, hend, fun hnone => ?_⟩
  obtain ⟨st, hqualify, hsuspect, hclear⟩ := qualify_of_quiet (below_of_qualify_noStart hnone)
  simp only [Phases.get_build] at hsuspect hclear
  rw [hqualify]
  exact ⟨rfl, hsuspect, hclear, hkept⟩

/-- A frame that begins in SAG: phases join; recovered, it begins an ENDING run (R51, R52). -/
theorem detector_judged_of_sag {c : StepClass} {f : SampleFrame} {s : State} {levels : Phases Nat}
    (hconf : s.configured = true) (hlevels : levelsOf c f s = some levels)
    (hstate : s.detector.state = .sag) :
    (judged c f s).detector.involved = joinedIn levels s ∧
    (recoveredIn levels s = false → (judged c f s).detector.state = .sag ∧
      (judged c f s).detector.recovery = s.detector.recovery ∧
      (judged c f s).detector.sagEnd = false) ∧
    (recoveredIn levels s = true → 1 < s.endQualify → (judged c f s).detector.state = .ending ∧
      (judged c f s).detector.recovery = 1 ∧
      (judged c f s).detector.endingElapsed = (judged c f s).detector.elapsed ∧
      (judged c f s).detector.sagEnd = false) := by
  obtain ⟨htimed, -, -, hrecovery, -, -, -, hend⟩ := timedOf_leaves c f s
  rw [detector_judged hconf hlevels, judge_of_sag levels hstate]
  simp only [jump_leaves]
  refine ⟨by split <;> simp, fun hnot => ?_, fun hrecovered hshort => ?_⟩
  · simp [hnot, htimed, hstate, hrecovery, hend]
  · simp [hrecovered, recover_of_lt hshort, hend]

/-- A frame that begins in ENDING: recovered, it goes on with the run; otherwise it returns to SAG (R52,
R53, log 34). -/
theorem detector_judged_of_ending {c : StepClass} {f : SampleFrame} {s : State}
    {levels : Phases Nat} (hconf : s.configured = true) (hlevels : levelsOf c f s = some levels)
    (hstate : s.detector.state = .ending) :
    (recoveredIn levels s = true → (judged c f s).detector.involved = s.detector.involved) ∧
    (recoveredIn levels s = true → s.detector.recovery + 1 < s.endQualify →
      (judged c f s).detector.state = .ending ∧
      (judged c f s).detector.recovery = s.detector.recovery + 1 ∧
      (judged c f s).detector.endingElapsed = s.detector.endingElapsed ∧
      (judged c f s).detector.sagEnd = false) ∧
    (recoveredIn levels s = false → (judged c f s).detector.state = .sag ∧
      (judged c f s).detector.recovery = 0 ∧
      (judged c f s).detector.involved = joinedIn levels s ∧
      (judged c f s).detector.sagEnd = false) := by
  obtain ⟨-, -, -, -, -, hending, -, hend⟩ := timedOf_leaves c f s
  have hinvolved : (timedOf c f s).involved = s.detector.involved := by simp [timedOf]
  rw [detector_judged hconf hlevels, judge_of_ending levels hstate]
  simp only [jump_leaves]
  refine ⟨fun hrecovered => ?_, fun hrecovered hshort => ?_, fun hnot => ?_⟩
  · simp [hrecovered, hinvolved]
  · simp [hrecovered, recover_of_lt hshort, hending, hend]
  · simp [hnot, hend]

/-- In SAG and ENDING the trigger stands and no sag starts; until the sag end the fast counters and the
sag duration stand, and the slow counters follow the levels (R51 to R54). -/
theorem detector_judged_of_inSag {c : StepClass} {f : SampleFrame} {s : State} {levels : Phases Nat}
    (hconf : s.configured = true) (hlevels : levelsOf c f s = some levels)
    (hstate : s.detector.state = .sag ∨ s.detector.state = .ending) :
    (judged c f s).detector.sagStart = false ∧
    (judged c f s).detector.trigger = s.detector.trigger ∧
    ((judged c f s).detector.sagEnd = false → (judged c f s).detector.fast = s.detector.fast ∧
      (judged c f s).detector.sagDuration = s.detector.sagDuration ∧
      (judged c f s).detector.slow = Phases.build (slowIn levels s)) := by
  obtain ⟨-, hnoStart, htimes⟩ := times_judged (c := c) (f := f) hconf
  obtain ⟨-, htrigger, -⟩ := htimes (hnoStart hstate)
  refine ⟨hnoStart hstate, htrigger, fun hend => ?_⟩
  rw [detector_judged hconf hlevels] at hend ⊢
  simp only [jump_leaves] at hend ⊢
  exact judge_counters_of_inSag hstate hend

/-- Settles O17: the statement's counters are the frame's; the rest is the judged detector, state by
state. -/
theorem detectorJudges : Obligations.DetectorJudges := by
  intro c f s levels hacc hpend hconf hlevels
  obtain ⟨htracker, hdetector, -⟩ := acceptedFrame_of_undeferred (c := c) (f := f) (.inl hpend)
  obtain ⟨hsuspended, -, htimes⟩ := times_judged (c := c) (f := f) hconf
  refine ⟨_, exec_sampleFrame_of_accepted hacc, ?_⟩
  rw [htracker, hdetector]
  intro slow fast recovered joins
  have hslow : slow = slowIn levels s := funext fun p => (slowIn_eq levels s p).symm
  have hfast : fast = fastIn c f s := by
    funext p
    simp only [fast, hsuspended]
    split
    · exact (fastIn_of_off hconf ‹_› p).symm
    · split
      · exact (fastIn_of_suspended hconf ‹_› ‹_› p).symm
      · obtain ⟨hnone, hsome⟩ :=
          fastIn_of_free (c := c) (f := f) hconf ‹_› (Bool.eq_false_iff.2 ‹_›) p
        split
        · exact (hnone ‹_›).symm
        · exact (hsome _ ‹_›).symm
  have hrecovered : recovered ↔ recoveredIn levels s = true := (recoveredIn_iff levels s).symm
  have hjoins : (judged c f s).detector.involved = joinedIn levels s → joins := by
    intro h p
    rw [h, hslow]
    exact joinedIn_iff levels s p
  clear_value joins recovered fast slow
  subst hslow hfast
  rw [hrecovered, Bool.not_eq_true]
  refine ⟨fun hstate => ?watching, fun hstate => ?inSag, fun hstate => ?sag, fun hstate => ?ending⟩
  case watching =>
    obtain ⟨hstart, hcount, hnoEnd, hquiet⟩ := detector_judged_of_watching hconf hlevels hstate
    refine ⟨hstart, fun _ p => by rw [hcount, Phases.get_build], fun hnone => ?_, hnoEnd⟩
    obtain ⟨hfast, hsuspect, hclear, hinvolved, hduration⟩ := hquiet hnone
    obtain ⟨-, htrigger, -⟩ := htimes hnone
    exact ⟨fun p => by simp [hcount, hfast], hsuspect, hclear, hinvolved, htrigger, hduration⟩
  case inSag =>
    obtain ⟨hnoStart, htrigger, hcounters⟩ := detector_judged_of_inSag hconf hlevels hstate
    refine ⟨hnoStart, htrigger, fun hend => ?_⟩
    obtain ⟨hfast, hduration, hcount⟩ := hcounters hend
    exact ⟨hfast, hduration, fun p => by rw [hcount, Phases.get_build]⟩
  case sag =>
    obtain ⟨hinvolved, hstays, hrun⟩ := detector_judged_of_sag hconf hlevels hstate
    exact ⟨hjoins hinvolved, hstays, hrun⟩
  case ending =>
    obtain ⟨hsame, hrun, hreturns⟩ := detector_judged_of_ending hconf hlevels hstate
    refine ⟨hsame, hrun, fun hnot => ?_⟩
    obtain ⟨hsag, hzero, hinvolved, hend⟩ := hreturns hnot
    exact ⟨hsag, hzero, hjoins hinvolved, hend⟩

end Sys2Proof.Machine
end

section
/-! PROOFS. The laws of the tables: valid content, curve numbers below curve_count, a PENDING image that
has passed its tests, and the allocator's levels those of its table (R65, R77, R130, R162). -/

namespace Sys2Proof.Machine

/-! ### The laws, one by one -/

/-- What `tablesLawful` and `storeLawful` ask of the engine. -/
structure TableLaws (s : State) : Prop where
  content : ∀ t image, s.image t = some image → contentValid t image = true
  curves : ∀ secs curves, s.image .sections = some secs → s.image .curves = some curves →
    curvesNamedBelow (curveCount curves) secs = true
  pending : ∀ t n, s.loader.load = .pending t n →
    contentValid t (stagingImage n s.loader.staging) = true ∧
    crossValid s t (stagingImage n s.loader.staging) = true
  levels : s.store.levels = (s.image .store).map deriveLevels

/-- A table's image, if any, has valid content. -/
theorem tableContentLawful_iff (s : State) (t : TableId) : tableContentLawful s t = true ↔
    ∀ image, s.image t = some image → contentValid t image = true := by
  cases h : s.image t <;> simp [tableContentLawful, h]

/-- Two valid tables agree on the curve numbers (R65, R77). -/
theorem curveLaw_iff (s : State) : curveLaw s = true ↔
    ∀ secs curves, s.image .sections = some secs → s.image .curves = some curves →
      curvesNamedBelow (curveCount curves) secs = true := by
  cases hs : s.image .sections <;> cases hc : s.image .curves <;> simp [curveLaw, hs, hc]

/-- A PENDING image has passed both tests (R162). -/
theorem pendingImageLawful_iff (s : State) : pendingImageLawful s = true ↔
    ∀ t n, s.loader.load = .pending t n →
      contentValid t (stagingImage n s.loader.staging) = true ∧
      crossValid s t (stagingImage n s.loader.staging) = true := by
  cases h : s.loader.load <;> simp [pendingImageLawful, h]

/-- The laws are those of the model; a Calibration image has valid content anyway (R10). -/
theorem tableLaws_iff (s : State) :
    TableLaws s ↔ tablesLawful s = true ∧ storeLawful s = true := by
  simp only [tablesLawful, storeLawful, Bool.and_eq_true, decide_eq_true_eq, curveLaw_iff,
    pendingImageLawful_iff, tableContentLawful_iff]
  constructor
  · rintro ⟨hcontent, hcurves, hpending, hlevels⟩
    exact ⟨⟨⟨⟨⟨⟨⟨hcontent _, hcontent _⟩, hcontent _⟩, hcontent _⟩, hcontent _⟩, hcurves⟩,
      hpending⟩, hlevels⟩
  · rintro ⟨⟨⟨⟨⟨⟨⟨hsupply, hsections⟩, hcurveTable⟩, hstore⟩, hreference⟩, hcurves⟩, hpending⟩,
      hlevels⟩
    refine ⟨fun t => ?_, hcurves, hpending, hlevels⟩
    cases t with
    | calibration => exact fun _ _ => rfl
    | supply => exact hsupply
    | sections => exact hsections
    | curves => exact hcurveTable
    | store => exact hstore
    | reference => exact hreference

/-! ### Work that keeps the tables in use -/

/-- From `s` to `t` the tables in use and the derived levels stand, and a load that is PENDING in `t` has
been so in `s`, with the same staging buffer. -/
structure TablesStand (s t : State) : Prop where
  tables : t.loader.tables = s.loader.tables
  levels : t.store.levels = s.store.levels
  load : noPending t = true ∨
    t.loader.load = s.loader.load ∧ t.loader.staging = s.loader.staging

/-- A PENDING load is one. -/
theorem noPending_of_pending {s : State} {t : TableId} {n : Nat} (h : s.loader.load = .pending t n) :
    noPending s = false := by
  rw [noPending, h]
  rfl

/-- The cross-table test reads the tables in use alone. -/
theorem crossValid_congr {s t : State} (h : t.loader.tables = s.loader.tables) (u : TableId)
    (image : List Word) : crossValid t u image = crossValid s u image := by
  cases u <;> simp only [crossValid, State.image, h]

/-- Such work keeps the laws. -/
theorem TableLaws.of_stand {s t : State} (hs : TableLaws s) (h : TablesStand s t) : TableLaws t := by
  obtain ⟨htables, hlevels, hload⟩ := h
  have himage : t.image = s.image := by
    funext u
    rw [State.image, State.image, htables]
  refine ⟨by rw [himage]; exact hs.content, by rw [himage]; exact hs.curves, fun u n hu => ?_,
    by rw [himage, hlevels]; exact hs.levels⟩
  rcases hload with hnone | ⟨hsame, hstaging⟩
  · rw [noPending_of_pending hu] at hnone
    cases hnone
  · rw [hstaging, crossValid_congr htables]
    exact hs.pending u n (hsame ▸ hu)

/-- Work that leaves the loader and the derived levels. -/
theorem TablesStand.of_loader {s t : State} (hloader : t.loader = s.loader)
    (hlevels : t.store.levels = s.store.levels) : TablesStand s t :=
  ⟨by rw [hloader], hlevels, .inr ⟨by rw [hloader], by rw [hloader]⟩⟩

/-- Closing the load is such work. -/
theorem tablesStand_closeLoad (s : State) : TablesStand s (closeLoad s) := ⟨rfl, rfl, .inl rfl⟩

/-! ### The application of a table (R130, R163, R164) -/

/-- An applied image is its table's contents, and the other tables stand. -/
theorem image_applyTable (t u : TableId) (image : List Word) (s : State) :
    (applyTable t image s).image u = if t = u then some image else s.image u := by
  simp only [State.image, applyTable, reactTo_leaves, tables_placeTable, Tables.get_set]

/-- The application of an image that has passed its tests keeps the laws. -/
theorem tableLaws_applyTable {s : State} {t : TableId} {image : List Word} (hs : TableLaws s)
    (hload : noPending s = true) (hcontent : contentValid t image = true)
    (hcross : crossValid s t image = true) : TableLaws (applyTable t image s) := by
  constructor
  case content =>
    intro u other h
    rw [image_applyTable] at h
    split at h
    · cases h
      subst t
      exact hcontent
    · exact hs.content u other h
  case curves =>
    intro secs curves hsecs hcurves
    rw [image_applyTable] at hsecs hcurves
    cases t with
    | sections =>
      cases hsecs
      exact (crossValid_sections_iff s image).1 hcross curves hcurves
    | curves =>
      cases hcurves
      exact (crossValid_curves_iff s image).1 hcross secs hsecs
    | calibration | supply | store | reference => exact hs.curves secs curves hsecs hcurves
  case pending =>
    intro u n h
    have hsame : noPending (applyTable t image s) = noPending s := by simp [noPending]
    rw [noPending_of_pending h, hload] at hsame
    cases hsame
  case levels =>
    rw [image_applyTable, applyTable, store_reactTo, store_placeTable]
    split
    · rfl
    · exact hs.levels

/-- A deferred application keeps the laws: a PENDING image has passed its tests (R162, R164). -/
theorem tableLaws_deferredApply {s : State} (hs : TableLaws s) : TableLaws (deferredApply s) := by
  unfold deferredApply
  split
  case h_1 t n hload =>
    obtain ⟨hcontent, hcross⟩ := hs.pending t n hload
    have happlied := tableLaws_applyTable (hs.of_stand (tablesStand_closeLoad s)) rfl hcontent
      ((crossValid_congr (tables_closeLoad s) t _).trans hcross)
    exact happlied.of_stand (.of_loader (loader_raise _ _ _) (by rw [store_raise]))
  case h_2 => exact hs
  case h_3 => exact hs

/-! ### Frames and silence -/

/-- An accepted frame keeps the laws: no work but a deferred application touches what they read. -/
theorem tableLaws_acceptFrame {s : State} (hs : TableLaws s) (c : StepClass) (f : SampleFrame) :
    TableLaws (acceptFrame c f s) := by
  have hrecorded : TableLaws (recorded (judgeFrame s.previous c (measureFrame c f s))) :=
    hs.of_stand (.of_loader (by simp [recorded, answered]) (by simp [recorded, answered]))
  have hslot : TableLaws (beforeSlot (judgeFrame s.previous c (measureFrame c f s))) := by
    rw [beforeSlot_eq]
    split
    · exact tableLaws_deferredApply hrecorded
    · exact hrecorded
  exact hslot.of_stand (.of_loader (by simp [acceptFrame, answerFrame])
    (by simp [acceptFrame, answerFrame]))

/-- A SAMPLE frame keeps the laws. -/
theorem tableLaws_sampleArrives {s : State} (hs : TableLaws s) (f : SampleFrame) :
    TableLaws (sampleArrives f s) := by
  rcases sampleArrives_cases f s with h | ⟨c, -, h⟩
  · rw [h]
    exact hs
  · rw [h]
    exact tableLaws_acceptFrame hs c f

/-- The lowering of the signal keeps the laws (R107, R164). -/
theorem tableLaws_lowerAndApply {s : State} (hs : TableLaws s) : TableLaws (lowerAndApply s) := by
  unfold lowerAndApply
  split
  · exact tableLaws_deferredApply (hs.of_stand (.of_loader rfl rfl))
  · exact hs

/-- An expiry in RUNNING keeps the laws (R7). -/
theorem tableLaws_expiryRunning {s : State} (hs : TableLaws s) : TableLaws (expiryRunning s) := by
  have hlowered : TableLaws (lowerAndApply (blocksSilenced s)) :=
    tableLaws_lowerAndApply (hs.of_stand (.of_loader (by simp) (by simp)))
  unfold expiryRunning
  dsimp only
  split
  · exact hlowered.of_stand (.of_loader (by simp) (by simp))
  · exact hlowered

/-- A silence expiry keeps the laws (R7, R8). -/
theorem tableLaws_silenceExpires {s : State} (hs : TableLaws s) : TableLaws (silenceExpires s) := by
  unfold silenceExpires
  (repeat' split)
  · exact hs
  · exact hs
  · exact tableLaws_expiryRunning hs
  · exact hs.of_stand (.of_loader (by simp) (by simp))

/-! ### Requests -/

/-- An effect that keeps the tables in use. -/
def Effect.tablesStand (effect : Effect) : Prop := ∀ s : State, TablesStand s (effect s).1

theorem onSection_tablesStand {effect : Fin 4 → Effect} (arg : Word)
    (h : ∀ k, (effect k).tablesStand) : (onSection arg effect).tablesStand := by
  intro s
  unfold onSection
  split
  · exact h _ s
  · exact .of_loader rfl rfl

theorem onTable_tablesStand {effect : TableId → Effect} (arg : Word)
    (h : ∀ t, (effect t).tablesStand) : (onTable arg effect).tablesStand := by
  intro s
  unfold onTable
  split
  · exact h _ s
  · exact .of_loader rfl rfl

/-- Reading a table, and fetching or discarding a record, are such effects (R155, R156, R167). -/
theorem readTableEffect_tablesStand (offset count : Word) (t : TableId) :
    (readTableEffect offset count t).tablesStand := by
  intro s
  unfold readTableEffect
  (repeat' split) <;> exact .of_loader rfl rfl

theorem fetchRecordEffect_tablesStand : fetchRecordEffect.tablesStand := by
  intro s
  unfold fetchRecordEffect
  split <;> exact .of_loader rfl rfl

theorem discardRecordEffect_tablesStand (seq : Word) : (discardRecordEffect seq).tablesStand := by
  intro s
  unfold discardRecordEffect
  (repeat' split) <;> exact .of_loader rfl rfl

/-- The requests to the section controller are such effects (R79, R80, R101, R103, R104). -/
theorem runEffect_tablesStand : runEffect.tablesStand := by
  intro s
  unfold runEffect
  split <;> exact .of_loader rfl rfl

theorem haltEffect_tablesStand : haltEffect.tablesStand := fun s =>
  .of_loader (by simp [haltEffect, placeMoves]) (by simp [haltEffect, placeMoves])

theorem armSectionEffect_tablesStand (k : Fin 4) : (armSectionEffect k).tablesStand := by
  intro s
  unfold armSectionEffect
  dsimp only
  split <;> exact .of_loader rfl rfl

theorem disarmSectionEffect_tablesStand (k : Fin 4) : (disarmSectionEffect k).tablesStand := by
  intro s
  unfold disarmSectionEffect
  split
  · exact .of_loader (by simp) (by simp)
  · exact .of_loader rfl rfl

theorem clearFaultEffect_tablesStand (k : Fin 4) : (clearFaultEffect k).tablesStand := by
  intro s
  unfold clearFaultEffect
  dsimp only
  split <;> exact .of_loader rfl rfl

/-- The requests on alerts are such effects (R180). -/
theorem setAlertMaskEffect_tablesStand (marks : Word) : (setAlertMaskEffect marks).tablesStand := by
  intro s
  unfold setAlertMaskEffect
  split <;> exact .of_loader rfl rfl

theorem clearAlertsEffect_tablesStand (marks : Word) : (clearAlertsEffect marks).tablesStand := by
  intro s
  unfold clearAlertsEffect
  split <;> exact .of_loader rfl rfl

/-- RESTART drops the load before the signal is lowered, so it applies nothing (R164, R170, R178). -/
theorem restartEffect_tablesStand : restartEffect.tablesStand := fun s =>
  ⟨by simp [restartEffect, Loader.closed], by simp [restartEffect], .inl rfl⟩

/-- A lock level or the sticky flags are not read by the laws (R166, R168, R169). -/
theorem lockTableEffect_tablesStand (level : Word) (t : TableId) :
    (lockTableEffect level t).tablesStand := by
  intro s
  unfold lockTableEffect
  split <;> exact ⟨rfl, rfl, .inr ⟨rfl, rfl⟩⟩

theorem unlockTableEffect_tablesStand (t : TableId) : (unlockTableEffect t).tablesStand := by
  intro s
  unfold unlockTableEffect
  split <;> exact ⟨rfl, rfl, .inr ⟨rfl, rfl⟩⟩

theorem clearLoadFlagsEffect_tablesStand : clearLoadFlagsEffect.tablesStand := fun _ =>
  ⟨rfl, rfl, .inr ⟨rfl, rfl⟩⟩

/-- A load that is begun is OPEN, or the load stands (R159). -/
theorem beginLoadEffect_tablesStand (words : Word) (t : TableId) :
    (beginLoadEffect words t).tablesStand := by
  intro s
  unfold beginLoadEffect
  (repeat' split)
  case isFalse.isFalse.isFalse.isFalse => exact ⟨rfl, rfl, .inl rfl⟩
  all_goals exact ⟨rfl, rfl, .inr ⟨rfl, rfl⟩⟩

/-- Words are written under an OPEN load only, which stays OPEN (R160). -/
theorem loadWordsEffect_tablesStand (offset count : Word) (data : List Word) :
    (loadWordsEffect offset count data).tablesStand := by
  intro s
  unfold loadWordsEffect
  split
  case h_1 t n hload =>
    (repeat' split)
    · exact ⟨rfl, rfl, .inr ⟨rfl, rfl⟩⟩
    · exact ⟨rfl, rfl, .inr ⟨rfl, rfl⟩⟩
    · exact ⟨rfl, rfl, .inl (by simp [noPending, hload, Load.isPending])⟩
  case h_2 | h_3 => exact ⟨rfl, rfl, .inr ⟨rfl, rfl⟩⟩

/-- DROP_LOAD closes the load (R165). -/
theorem dropLoadEffect_tablesStand : dropLoadEffect.tablesStand := by
  intro s
  unfold dropLoadEffect
  split
  · exact .of_loader rfl rfl
  · exact tablesStand_closeLoad s
  · exact tablesStand_closeLoad s

/-! ### COMMIT_TABLE (R161 to R163) -/

/-- An image that has passed its tests becomes PENDING, or is applied (R163). -/
theorem tableLaws_placeImage {t : TableId} {n : Nat} {s : State} (hs : TableLaws s)
    (hcontent : contentValid t (stagingImage n s.loader.staging) = true)
    (hcross : crossValid s t (stagingImage n s.loader.staging) = true) :
    TableLaws (placeImage t n s).1 := by
  unfold placeImage
  split
  · refine ⟨hs.content, hs.curves, fun u m h => ?_, hs.levels⟩
    cases h
    exact ⟨hcontent, hcross⟩
  · exact tableLaws_applyTable (hs.of_stand (tablesStand_closeLoad s)) rfl hcontent
      ((crossValid_congr (tables_closeLoad s) t _).trans hcross)

/-- A complete image that fails a test is dropped (R162). -/
theorem tableLaws_judgeImage {t : TableId} {n : Nat} {s : State} (hs : TableLaws s) :
    TableLaws (judgeImage t n s).1 := by
  unfold judgeImage
  dsimp only
  split
  · exact hs.of_stand ⟨rfl, rfl, .inl rfl⟩
  · rename_i hcontent
    split
    · exact hs.of_stand ⟨rfl, rfl, .inl rfl⟩
    · rename_i hcross
      simp only [Bool.not_eq_true', Bool.not_eq_false] at hcontent hcross
      exact tableLaws_placeImage hs hcontent hcross

/-- COMMIT_TABLE keeps the laws: what it does not judge it refuses (R161). -/
theorem tableLaws_commitTableEffect (table : Word) {s : State} (hs : TableLaws s) :
    TableLaws (commitTableEffect table s).1 := by
  unfold commitTableEffect
  (repeat' split)
  · exact hs.of_stand ⟨rfl, rfl, .inr ⟨rfl, rfl⟩⟩
  · exact hs.of_stand ⟨rfl, rfl, .inl rfl⟩
  · exact hs.of_stand ⟨rfl, rfl, .inr ⟨rfl, rfl⟩⟩
  · exact tableLaws_judgeImage hs
  · exact hs
  · exact hs

/-! ### Every step -/

/-- Every request's effect keeps the laws: all but COMMIT_TABLE keep the tables in use. -/
theorem tableLaws_effect {effect : Effect} (he : IsRequestEffect effect) {s : State}
    (hs : TableLaws s) : TableLaws (effect s).1 := by
  cases he with
  | commitTable table => exact tableLaws_commitTableEffect table hs
  | unknown | readIdent | readStatus => exact hs
  | readSection arg =>
    exact hs.of_stand (onSection_tablesStand arg (fun _ _ => .of_loader rfl rfl) s)
  | readTable arg => exact hs.of_stand (onTable_tablesStand arg (readTableEffect_tablesStand _ _) s)
  | fetchRecord => exact hs.of_stand (fetchRecordEffect_tablesStand s)
  | discardRecord seq => exact hs.of_stand (discardRecordEffect_tablesStand seq s)
  | run => exact hs.of_stand (runEffect_tablesStand s)
  | halt => exact hs.of_stand (haltEffect_tablesStand s)
  | restart => exact hs.of_stand (restartEffect_tablesStand s)
  | armSection arg => exact hs.of_stand (onSection_tablesStand arg armSectionEffect_tablesStand s)
  | disarmSection arg =>
    exact hs.of_stand (onSection_tablesStand arg disarmSectionEffect_tablesStand s)
  | clearFault arg => exact hs.of_stand (onSection_tablesStand arg clearFaultEffect_tablesStand s)
  | beginLoad arg => exact hs.of_stand (onTable_tablesStand arg (beginLoadEffect_tablesStand _) s)
  | loadWords => exact hs.of_stand (loadWordsEffect_tablesStand _ _ _ s)
  | dropLoad => exact hs.of_stand (dropLoadEffect_tablesStand s)
  | lockTable arg => exact hs.of_stand (onTable_tablesStand arg (lockTableEffect_tablesStand _) s)
  | unlockTable arg => exact hs.of_stand (onTable_tablesStand arg unlockTableEffect_tablesStand s)
  | clearLoadFlags => exact hs.of_stand (clearLoadFlagsEffect_tablesStand s)
  | setAlertMask marks => exact hs.of_stand (setAlertMaskEffect_tablesStand marks s)
  | clearAlerts marks => exact hs.of_stand (clearAlertsEffect_tablesStand marks s)

/-- A MANAGE frame keeps the laws. -/
theorem tableLaws_serve (r : Request) {s : State} (hs : TableLaws s) :
    TableLaws (serve r (effectOf r) s) := by
  rcases serve_cases r (effectOf r) s with h | h | ⟨-, h⟩
  · rw [h]
    exact hs
  · rw [h]
    exact hs.of_stand (.of_loader (loader_raise _ _ _) (by rw [store_raise]))
  · rw [h, acceptRequest_of_effect rfl]
    have hslotted : TableLaws (s.slotted r) := hs.of_stand (.of_loader rfl rfl)
    exact (tableLaws_effect (effectOf_isRequestEffect r) hslotted).of_stand (.of_loader rfl rfl)

/-- Settles O59: tables change by an application alone, whose image has passed its tests, at its commit or
while it has been PENDING. -/
theorem tablesStayLawful : Obligations.TablesStayLawful := by
  intro s t htables hstore _ h
  obtain ⟨-, -, -, -, -, -, -, -, hresetTables, hresetStore, -⟩ := reset_lawful
  exact (tableLaws_iff t).1 <| step_keeps (law := TableLaws)
    (pins := fun _ _ _ _ hs => hs.of_stand (.of_loader rfl rfl))
    (atReset := (tableLaws_iff State.reset).2 ⟨hresetTables, hresetStore⟩)
    (sample := fun f _ hs => tableLaws_sampleArrives hs f)
    (silence := fun _ => tableLaws_silenceExpires)
    (request := fun r _ => tableLaws_serve r)
    ((tableLaws_iff s).2 ⟨htables, hstore⟩) h

end Sys2Proof.Machine
end

section
/-! PROOFS. The demand evaluator in an accepted frame: what it publishes for each section, read of the
engine as the frame has judged it (R67 to R75). -/

namespace Sys2Proof.Machine

/-! ### The evaluation (R68, R70, R74) -/

/-- The required level is that of the first step whose until lies above d_half, else the final one
(R68). -/
theorem requiredOn_eq_find (final dHalf : Nat) (steps : List (Nat × Nat)) :
    requiredOn final dHalf steps =
      ((steps.find? fun st => decide (dHalf < st.1)).map Prod.snd).getD final := by
  induction steps with
  | nil => rfl
  | cons st steps ih =>
    rw [requiredOn, List.find?_cons]
    by_cases hbefore : dHalf < st.1
    · simp [hbefore]
    · simp [hbefore, ih]

/-- A phase is below R when its level is valid and below it (R70, R72). -/
theorem phaseBelow_iff (r : Nat) (level : Option Nat) :
    phaseBelow r level = true ↔ ∃ l, level = some l ∧ l * 1000 < r * 8192 := by
  cases level with
  | none => simp [phaseBelow]
  | some l => simp [phaseBelow, levelBelow_eq_true]

/-- The detector is in a sag in SAG and in ENDING. -/
theorem inSag_iff (d : Detector) : d.inSag = true ↔ d.state = .sag ∨ d.state = .ending := by
  simp [Detector.inSag]

/-- A section is needed in SAG and ENDING, when some phase is below R (R70). -/
theorem neededAt_iff (inSag : Bool) (r : Nat) (levels : Phases (Option Nat)) :
    neededAt inSag r levels = true ↔
      inSag = true ∧ ∃ (p : Phase) (l : Nat), levels.get p = some l ∧ l * 1000 < r * 8192 := by
  simp only [neededAt, Bool.and_eq_true, anyPhase_iff, Phases.get_build, phaseBelow_iff]

/-- The curves, and each section's curve number and floor margin, are read from the tables alone. -/
theorem demandFields_congr {s t : State} (h : t.loader = s.loader) :
    t.curves = s.curves ∧ ∀ k, t.curveNumber k = s.curveNumber k ∧ t.floorMargin k = s.floorMargin k := by
  simp only [State.curves, State.image, State.curveNumber, State.floorMargin, State.secField, h,
    field_congr h, and_self, implies_true]

/-! ### The evaluator in a frame (R67, R75) -/

/-- A configured frame's demand is the evaluation of the judged engine. -/
theorem demand_judged {c : StepClass} {f : SampleFrame} {s : State} (h : s.configured = true)
    (k : Fin 4) : (judged c f s).demand.get k = evaluate (judged c f s) k := by
  have hwork : ∀ u : State, u.configured = true →
      (demandWork u).demand.get k = evaluate (demandWork u) k := by
    intro u hu
    rw [demandWork, if_pos hu, Four.get_build]
    rfl
  refine hwork _ ?_
  rw [← h]
  exact (configured_inService_congr (by simp [measured])).1

/-- On a section whose curve is in the Curve Table, the judged engine evaluates the steps of that curve
(R68). -/
theorem requiredLevel_judged {c : StepClass} {f : SampleFrame} {s : State} {k : Fin 4} {curve : Curve}
    (h : s.curves[s.curveNumber k]? = some curve) :
    (judged c f s).requiredLevel k =
      requiredOn curve.final (judged c f s).detector.dHalf curve.steps := by
  obtain ⟨hcurves, hfields⟩ := demandFields_congr (loader_stages c f s).2.2
  simp only [State.requiredLevel, hcurves, (hfields k).1, h]

/-! ### What the evaluation reads, at the end of the frame -/

/-- A Supply Threshold Table takes the detector neither into a sag nor out of one (R59). -/
theorem inSag_retabled (d : Detector) : d.retabled.inSag = d.inSag := by
  by_cases h : d.state = .suspect
  · simp only [Detector.inSag, Detector.retabled, h, if_true]
    rfl
  · simp only [Detector.inSag, Detector.retabled, if_neg h]

/-- A deferred application does not either (R164). -/
theorem inSag_deferredApply (s : State) : (deferredApply s).detector.inSag = s.detector.inSag := by
  rcases detector_deferredApply s with h | h
  · rw [h]
  · rw [h, inSag_retabled]

/-- Nor does the whole answer to a frame. -/
theorem inSag_beforeSlot (s : State) : (beforeSlot s).detector.inSag = s.detector.inSag := by
  obtain ⟨-, hdetector, -⟩ := recorded_leaves s
  rw [beforeSlot_eq]
  split
  · rw [inSag_deferredApply, hdetector]
  · rw [hdetector]

/-- The answer to a frame leaves what the evaluation has read of detector and front end, and the
demand itself. -/
theorem demandInputs_acceptedFrame (c : StepClass) (f : SampleFrame) (s : State) :
    (fillOutSlot (atSlot c f s)).demand = (judged c f s).demand ∧
    (fillOutSlot (atSlot c f s)).levels = (judged c f s).levels ∧
    (fillOutSlot (atSlot c f s)).detector.elapsed = (judged c f s).detector.elapsed ∧
    (fillOutSlot (atSlot c f s)).detector.inSag = (judged c f s).detector.inSag := by
  simp only [State.levels, atSlot, fillOutSlot_leaves, beforeSlot_leaves, inSag_beforeSlot, and_self]

/-- Settles O18: the frame publishes the evaluation of the engine it has judged, and the answer to the
frame leaves both as they are. -/
theorem demandOfFrame : Obligations.DemandOfFrame := by
  intro c f s k curve hacc hconf hcurve
  obtain ⟨hdemand, hlevels, helapsed, hsag⟩ := demandInputs_acceptedFrame c f s
  have hmargin : (judged c f s).floorMargin k = s.floorMargin k :=
    ((demandFields_congr (loader_stages c f s).2.2).2 k).2
  refine ⟨_, exec_sampleFrame_of_accepted hacc, ?_⟩
  rw [hdemand, hlevels, helapsed, ← inSag_iff, hsag, demand_judged hconf k]
  refine ⟨?required, neededAt_iff _ _ _, ?floor⟩
  case required => exact (requiredLevel_judged hcurve).trans (requiredOn_eq_find _ _ _)
  case floor => rw [← hmargin]; rfl

end Sys2Proof.Machine
end

section
/-! PROOFS. The published ranges: both angles within one cycle, F at most 1000, every reference within
its U_eff (00 section 4.4, R117, R133). -/

namespace Sys2Proof.Machine

/-! ### The ranges, block by block -/

/-- Both angles lie below one cycle (00 section 4.4). -/
def Tracker.inCycle (t : Tracker) : Prop := t.live < 49152 ∧ t.held < 49152

/-- Each reference lies within U_eff (R117). -/
def Injection.withinLimit (j : Injection) : Prop := ∀ p, (j.refs.get p).natAbs ≤ j.uEff

/-- What `rangesLawful` asks of the engine. -/
structure RangeLaws (s : State) : Prop where
  angles : s.tracker.inCycle
  level : s.store.level ≤ 1000
  refs : ∀ k, (s.injection.get k).withinLimit

/-- The laws are those of the model. -/
theorem rangeLaws_iff (s : State) : RangeLaws s ↔ rangesLawful s = true := by
  simp only [rangesLawful, Bool.and_eq_true, decide_eq_true_eq, Four.all_toList, Phases.all_toList]
  constructor
  · rintro ⟨⟨hlive, hheld⟩, hlevel, hrefs⟩
    exact ⟨⟨⟨hlive, hheld⟩, hlevel⟩, hrefs⟩
  · rintro ⟨⟨⟨hlive, hheld⟩, hlevel⟩, hrefs⟩
    exact ⟨⟨hlive, hheld⟩, hlevel, hrefs⟩

/-! ### The tracker's work on a frame (R20 to R31) -/

/-- The live angle of a frame is taken modulo one cycle, with a crossing and without (R21, R23). -/
theorem live_trackLive_lt (taken : Bool) (gap : Nat) (s : State) (t : Tracker) :
    (trackLive taken gap s t).live < 49152 := by
  cases taken with
  | false =>
    simp only [trackLive, Bool.false_eq_true, if_false, lockQuiet_leaves]
    exact angle_lt _
  | true =>
    simp only [trackLive, if_true, takeCrossing]
    split <;> simp only [lockGood_leaves, lockBad_leaves] <;> exact angle_lt _

/-- The held angle stands, or its advance is taken modulo one cycle (R29). -/
theorem held_advanceHeld_lt (gap : Nat) {t : Tracker} (h : t.held < 49152) :
    (advanceHeld gap t).held < 49152 := by
  unfold advanceHeld
  split
  · exact h
  · exact angle_lt ((t.held : Int) + ((gap + 1) * t.incHeld : Nat))

/-- The first part of the tracker's work keeps both angles in the cycle (R21, R23, R29, R31). -/
theorem inCycle_trackFirst (prev : Previous) (gap : Nat) (s : State) {t : Tracker}
    (h : t.inCycle) : (trackFirst prev gap s t).inCycle := by
  have hlive : (advanceHeld gap (trackLive (crossingTaken prev s) gap s t)).live < 49152 := by
    simpa using live_trackLive_lt (crossingTaken prev s) gap s t
  have hheld : (advanceHeld gap (trackLive (crossingTaken prev s) gap s t)).held < 49152 :=
    held_advanceHeld_lt gap (by simpa using h.2)
  unfold trackFirst
  dsimp only
  (repeat' split)
  · exact ⟨hlive, angle_lt _⟩
  · exact ⟨hlive, angle_lt _⟩
  · exact ⟨hlive, angle_lt _⟩
  · exact ⟨hlive, hheld⟩

/-- The capture at a sag start takes the live angle, or leaves the held one (R28). -/
theorem inCycle_captureHeld {t : Tracker} (h : t.inCycle) : (captureHeld t).inCycle := by
  unfold captureHeld
  split
  · exact ⟨h.1, h.1⟩
  · exact h
  · exact h

/-- The first part in the engine: none while it is not configured (R20). -/
theorem inCycle_trackerFirst (prev : Previous) (gap : Nat) {s : State} (h : s.tracker.inCycle) :
    (trackerFirst prev gap s).tracker.inCycle := by
  unfold trackerFirst
  split
  · simpa using inCycle_trackFirst prev gap s h
  · exact h

/-- The second part moves an angle at a sag start alone (R28, R30). -/
theorem inCycle_trackerSecond {s : State} (h : s.tracker.inCycle) :
    (trackerSecond s).tracker.inCycle := by
  unfold trackerSecond
  (repeat' split)
  · exact inCycle_captureHeld h
  · simpa [Tracker.inCycle] using h
  · exact h
  · exact h

/-- The judgement of a frame keeps both angles in the cycle. -/
theorem inCycle_judgeFrame (prev : Previous) (c : StepClass) {s : State} (h : s.tracker.inCycle) :
    (judgeFrame prev c s).tracker.inCycle := by
  simp only [judgeFrame, demandWork_leaves]
  refine inCycle_trackerSecond ?_
  simpa using inCycle_trackerFirst prev c.gap h

/-! ### The store allocator and the injection unit on a frame -/

/-- The allocator's F is a store level, or stands (R132, R133). -/
theorem level_storeWork_le {s : State} (h : s.store.level ≤ 1000) :
    (storeWork s).store.level ≤ 1000 := by
  unfold storeWork
  split
  · dsimp only
    split <;> exact storeLevel_le _ _
  · exact h

/-- The judgement of a frame keeps F at most 1000. -/
theorem level_judgeFrame_le (prev : Previous) (c : StepClass) {s : State}
    (h : s.store.level ≤ 1000) : (judgeFrame prev c s).store.level ≤ 1000 := by
  simp only [judgeFrame, demandWork_leaves, trackerSecond_leaves, detectorWork_leaves]
  exact level_storeWork_le (by simpa using h)

/-- The references of a frame are clamped (R117). -/
theorem withinLimit_injectSection (s : State) (k : Fin 4) : (injectSection s k).withinLimit := by
  intro p
  simp only [injectSection, Phases.get_build]
  exact clampRef_natAbs_le _ _

/-- The injection unit's work keeps every reference within its limit (R111, R117). -/
theorem withinLimit_injectionWork {s : State} (h : ∀ k, (s.injection.get k).withinLimit)
    (k : Fin 4) : ((injectionWork s).injection.get k).withinLimit := by
  unfold injectionWork
  split
  · rw [Four.get_build]
    exact withinLimit_injectSection s k
  · exact h k

/-- Record, deferred application and out slot leave the injection unit's items of the frame. -/
theorem injection_answerFrame (s : State) :
    (answerFrame s).injection = (injectionWork (controllerWork s).state).injection := by
  rw [answerFrame, beforeSlot_eq]
  split <;> simp [recorded, answered]

/-- An accepted frame keeps the laws. -/
theorem rangeLaws_acceptFrame {s : State} (hs : RangeLaws s) (c : StepClass) (f : SampleFrame) :
    RangeLaws (acceptFrame c f s) := by
  obtain ⟨hangles, hlevel, hrefs⟩ := hs
  refine ⟨?angles, ?level, fun k => ?refs⟩
  case angles =>
    simpa [acceptFrame, Tracker.inCycle] using
      inCycle_judgeFrame s.previous c (s := measureFrame c f s) (by simpa using hangles)
  case level =>
    simpa [acceptFrame] using
      level_judgeFrame_le s.previous c (s := measureFrame c f s) (by simpa using hlevel)
  case refs =>
    rw [acceptFrame, injection_answerFrame]
    exact withinLimit_injectionWork (by simpa using hrefs) k

/-- A SAMPLE frame keeps the laws. -/
theorem rangeLaws_sampleArrives {s : State} (hs : RangeLaws s) (f : SampleFrame) :
    RangeLaws (sampleArrives f s) := by
  rcases sampleArrives_cases f s with h | ⟨c, -, h⟩
  · rw [h]
    exact hs
  · rw [h]
    exact rangeLaws_acceptFrame hs c f

/-! ### Work that makes no angle, level or reference -/

/-- From `s` to `t` angles and F stand, and the references stand or are cleared (R122). -/
structure RangesStand (s t : State) : Prop where
  live : t.tracker.live = s.tracker.live
  held : t.tracker.held = s.tracker.held
  level : t.store.level = s.store.level
  injection : t.injection = s.injection ∨ t.injection = s.injection.map Injection.cleared

/-- A cleared item has references 0, which are within any limit. -/
theorem withinLimit_cleared (j : Injection) : j.cleared.withinLimit := by
  intro p
  simp [Injection.cleared]

/-- Such work keeps the laws. -/
theorem RangeLaws.of_stand {s t : State} (hs : RangeLaws s) (h : RangesStand s t) : RangeLaws t := by
  obtain ⟨⟨hlive, hheld⟩, hlevel, hrefs⟩ := hs
  refine ⟨⟨h.live ▸ hlive, h.held ▸ hheld⟩, h.level ▸ hlevel, fun k => ?_⟩
  rcases h.injection with hsame | hcleared
  · rw [hsame]
    exact hrefs k
  · rw [hcleared, Four.get_map]
    exact withinLimit_cleared _

/-- Work that leaves tracker, store allocator and injection unit. -/
theorem RangesStand.of_blocks {s t : State} (htracker : t.tracker = s.tracker)
    (hstore : t.store = s.store) (hinjection : t.injection = s.injection) : RangesStand s t :=
  ⟨by rw [htracker], by rw [htracker], by rw [hstore], .inl hinjection⟩

/-- An expiry in RUNNING clears the references (R37, R122). -/
theorem rangesStand_expiryRunning (s : State) : RangesStand s (expiryRunning s) := by
  obtain ⟨-, htracker, -, -, hinjection, -⟩ := expiryRunning_blocks s
  obtain ⟨-, -, -, -, hcleared⟩ := blocksSilenced_blocks s
  have hlowered : (lowerAndApply (blocksSilenced s)).injection = (blocksSilenced s).injection := by simp
  exact ⟨by rw [htracker]; simp, by rw [htracker]; simp, by simp,
    .inr (hinjection.trans (hlowered.trans hcleared))⟩

/-- A silence expiry is such work (R7, R8). -/
theorem rangesStand_silenceExpires (s : State) : RangesStand s (silenceExpires s) := by
  unfold silenceExpires
  (repeat' split)
  · exact .of_blocks rfl rfl rfl
  · exact .of_blocks rfl rfl rfl
  · exact rangesStand_expiryRunning s
  · exact .of_blocks (by simp) (by simp) (by simp)

/-- The application of a table moves no angle, and F waits for the next frame (R36, R131). -/
theorem rangesStand_applyTable (t : TableId) (image : List Word) (s : State) :
    RangesStand s (applyTable t image (closeLoad s)) :=
  ⟨by simp, by simp, by simp, .inl (by simp)⟩

/-! ### Requests -/

/-- An effect that makes no angle, level or reference. -/
def Effect.rangesStand (effect : Effect) : Prop := ∀ s : State, RangesStand s (effect s).1

theorem onSection_rangesStand {effect : Fin 4 → Effect} (arg : Word)
    (h : ∀ k, (effect k).rangesStand) : (onSection arg effect).rangesStand := by
  intro s
  unfold onSection
  split
  · exact h _ s
  · exact .of_blocks rfl rfl rfl

theorem onTable_rangesStand {effect : TableId → Effect} (arg : Word)
    (h : ∀ t, (effect t).rangesStand) : (onTable arg effect).rangesStand := by
  intro s
  unfold onTable
  split
  · exact h _ s
  · exact .of_blocks rfl rfl rfl

/-- Reading a table, and fetching or discarding a record, are such effects (R155, R156, R167). -/
theorem readTableEffect_rangesStand (offset count : Word) (t : TableId) :
    (readTableEffect offset count t).rangesStand := by
  intro s
  unfold readTableEffect
  (repeat' split) <;> exact .of_blocks rfl rfl rfl

theorem fetchRecordEffect_rangesStand : fetchRecordEffect.rangesStand := by
  intro s
  unfold fetchRecordEffect
  split <;> exact .of_blocks rfl rfl rfl

theorem discardRecordEffect_rangesStand (seq : Word) : (discardRecordEffect seq).rangesStand := by
  intro s
  unfold discardRecordEffect
  (repeat' split) <;> exact .of_blocks rfl rfl rfl

/-- The requests to the section controller move sections alone (R79, R80, R101, R103, R104). -/
theorem runEffect_rangesStand : runEffect.rangesStand := by
  intro s
  unfold runEffect
  split <;> exact .of_blocks rfl rfl rfl

theorem haltEffect_rangesStand : haltEffect.rangesStand := fun s =>
  .of_blocks (by simp [haltEffect, placeMoves]) (by simp [haltEffect, placeMoves])
    (by simp [haltEffect, placeMoves])

theorem armSectionEffect_rangesStand (k : Fin 4) : (armSectionEffect k).rangesStand := by
  intro s
  unfold armSectionEffect
  dsimp only
  split <;> exact .of_blocks rfl rfl rfl

theorem disarmSectionEffect_rangesStand (k : Fin 4) : (disarmSectionEffect k).rangesStand := by
  intro s
  unfold disarmSectionEffect
  split
  · exact .of_blocks (by simp) (by simp) (by simp)
  · exact .of_blocks rfl rfl rfl

theorem clearFaultEffect_rangesStand (k : Fin 4) : (clearFaultEffect k).rangesStand := by
  intro s
  unfold clearFaultEffect
  dsimp only
  split <;> exact .of_blocks rfl rfl rfl

/-- The requests on alerts are such effects (R180). -/
theorem setAlertMaskEffect_rangesStand (marks : Word) : (setAlertMaskEffect marks).rangesStand := by
  intro s
  unfold setAlertMaskEffect
  split <;> exact .of_blocks rfl rfl rfl

theorem clearAlertsEffect_rangesStand (marks : Word) : (clearAlertsEffect marks).rangesStand := by
  intro s
  unfold clearAlertsEffect
  split <;> exact .of_blocks rfl rfl rfl

/-- A load is begun, filled and dropped in the loader alone (R159, R160, R165). -/
theorem beginLoadEffect_rangesStand (words : Word) (t : TableId) :
    (beginLoadEffect words t).rangesStand := by
  intro s
  unfold beginLoadEffect
  (repeat' split) <;> exact .of_blocks rfl rfl rfl

theorem loadWordsEffect_rangesStand (offset count : Word) (data : List Word) :
    (loadWordsEffect offset count data).rangesStand := by
  intro s
  unfold loadWordsEffect
  (repeat' split) <;> exact .of_blocks rfl rfl rfl

theorem dropLoadEffect_rangesStand : dropLoadEffect.rangesStand := by
  intro s
  unfold dropLoadEffect
  split <;> exact .of_blocks rfl rfl rfl

/-- So are the locks set and lifted (R168, R169). -/
theorem lockTableEffect_rangesStand (level : Word) (t : TableId) :
    (lockTableEffect level t).rangesStand := by
  intro s
  unfold lockTableEffect
  split <;> exact .of_blocks rfl rfl rfl

theorem unlockTableEffect_rangesStand (t : TableId) : (unlockTableEffect t).rangesStand := by
  intro s
  unfold unlockTableEffect
  split <;> exact .of_blocks rfl rfl rfl

/-- A commit refuses, drops its load, waits PENDING, or applies its image (R161 to R163). -/
theorem judgeImage_rangesStand (t : TableId) (n : Nat) : (judgeImage t n).rangesStand := by
  intro s
  unfold judgeImage placeImage
  dsimp only
  (repeat' split)
  · exact .of_blocks rfl rfl rfl
  · exact .of_blocks rfl rfl rfl
  · exact .of_blocks rfl rfl rfl
  · exact rangesStand_applyTable t _ s

theorem commitTableEffect_rangesStand (table : Word) : (commitTableEffect table).rangesStand := by
  intro s
  unfold commitTableEffect
  (repeat' split)
  case h_1.isFalse.isFalse.isFalse => exact judgeImage_rangesStand _ _ s
  all_goals exact .of_blocks rfl rfl rfl

/-- RESTART keeps the angles and F, and clears the references (R39, R122, R178). -/
theorem restartEffect_rangesStand : restartEffect.rangesStand := fun s =>
  ⟨by simp [restartEffect, Tracker.restarted], by simp [restartEffect, Tracker.restarted],
    by simp [restartEffect], .inr (by simp [restartEffect])⟩

/-! ### Every step -/

/-- No request makes an angle, a level or a reference. -/
theorem rangesStand_of_isRequestEffect {effect : Effect} (he : IsRequestEffect effect) :
    effect.rangesStand := by
  cases he with
  | unknown | readIdent | readStatus | clearLoadFlags => exact fun _ => .of_blocks rfl rfl rfl
  | readSection arg => exact onSection_rangesStand arg fun _ _ => .of_blocks rfl rfl rfl
  | readTable arg => exact onTable_rangesStand arg (readTableEffect_rangesStand _ _)
  | fetchRecord => exact fetchRecordEffect_rangesStand
  | discardRecord seq => exact discardRecordEffect_rangesStand seq
  | run => exact runEffect_rangesStand
  | halt => exact haltEffect_rangesStand
  | restart => exact restartEffect_rangesStand
  | armSection arg => exact onSection_rangesStand arg armSectionEffect_rangesStand
  | disarmSection arg => exact onSection_rangesStand arg disarmSectionEffect_rangesStand
  | clearFault arg => exact onSection_rangesStand arg clearFaultEffect_rangesStand
  | beginLoad arg => exact onTable_rangesStand arg (beginLoadEffect_rangesStand _)
  | loadWords => exact loadWordsEffect_rangesStand _ _ _
  | commitTable table => exact commitTableEffect_rangesStand table
  | dropLoad => exact dropLoadEffect_rangesStand
  | lockTable arg => exact onTable_rangesStand arg (lockTableEffect_rangesStand _)
  | unlockTable arg => exact onTable_rangesStand arg unlockTableEffect_rangesStand
  | setAlertMask marks => exact setAlertMaskEffect_rangesStand marks
  | clearAlerts marks => exact clearAlertsEffect_rangesStand marks

/-- A MANAGE frame is such work. -/
theorem rangesStand_serve (r : Request) (s : State) : RangesStand s (serve r (effectOf r) s) := by
  rcases serve_cases r (effectOf r) s with h | h | ⟨-, h⟩
  · rw [h]
    exact .of_blocks rfl rfl rfl
  · rw [h]
    exact .of_blocks rfl rfl rfl
  · rw [h, acceptRequest_of_effect rfl]
    obtain ⟨hlive, hheld, hlevel, hinjection⟩ :=
      rangesStand_of_isRequestEffect (effectOf_isRequestEffect r) (s.slotted r)
    exact ⟨hlive, hheld, hlevel, hinjection⟩

/-- Settles O60: a frame makes angles modulo one cycle, a store level of at most 1000 and clamped
references, and nothing else makes any. -/
theorem rangesStayLawful : Obligations.RangesStayLawful := by
  intro s t hs h
  obtain ⟨-, -, -, -, -, -, -, -, -, -, hreset⟩ := reset_lawful
  exact (rangeLaws_iff t).1 <| step_keeps (law := RangeLaws)
    (pins := fun _ _ _ _ hs => hs.of_stand (.of_blocks rfl rfl rfl))
    (atReset := (rangeLaws_iff State.reset).2 hreset)
    (sample := fun f _ hs => rangeLaws_sampleArrives hs f)
    (silence := fun s hs => hs.of_stand (rangesStand_silenceExpires s))
    (request := fun r s hs => hs.of_stand (rangesStand_serve r s))
    ((rangeLaws_iff s).2 hs) h

end Sys2Proof.Machine
end

section
/-! PROOFS. The injection unit in an accepted frame: the formulas of R114 to R116 case by case, and its
items read at the end of the frame (R111 to R119). -/

namespace Sys2Proof.Machine

/-! ### The formulas (R113 to R116) -/

/-- U_eff: the nominal limit, reduced while V lies below its nominal value (R113). -/
theorem effectiveLimit_eq (limitPm : Nat) (v : Int) :
    effectiveLimit limitPm v = (limitPm * 8192 / 1000) * (min (max v 0) 8192).toNat / 8192 := by
  have hv : min v.toNat 8192 = (min (max v 0) 8192).toNat := by omega
  simp only [effectiveLimit, nominalLimit, Config.nominal, hv]

/-- A phase below 82, or without a valid level, is restored (R115). -/
theorem scaledRef_value (method : Method) (target refAngle : Nat) (p : Phase) (level : Option Nat)
    (z : Int) : (scaledRef method target refAngle p level z).value =
      match level with
      | some l =>
        if l < 82 then restoreRef target refAngle p z
        else roundDiv (z * ((target : Int) * 8192 - 1000 * l)) (1000 * l)
      | none => restoreRef target refAngle p z := by
  cases level with
  | none => rfl
  | some l =>
    by_cases hlost : l < 82
    · simp [scaledRef, heldLevel, Config.lostLevel, hlost]
    · simp [scaledRef, heldLevel, Config.lostLevel, hlost, inphaseRef, Config.nominal]

/-- FLOOR: nothing to a phase that meets the floor target, INPHASE towards it otherwise (R116). -/
theorem floorRef_value (target refAngle : Nat) (p : Phase) (level : Option Nat) (z : Int) :
    (floorRef target refAngle p level z).value =
      match level with
      | some l =>
        if target = 0 ∨ target * 8192 ≤ l * 1000 then 0
        else (scaledRef .floor target refAngle p level z).value
      | none => if target = 0 then 0 else restoreRef target refAngle p z := by
  unfold floorRef
  cases level with
  | none =>
    by_cases hzero : target = 0
    · simp [meetsFloor, hzero]
    · simp [meetsFloor, hzero, scaledRef_value]
  | some l =>
    have hmeets : meetsFloor target (some l) = true ↔ target = 0 ∨ target * 8192 ≤ l * 1000 := by
      simp [meetsFloor, levelBelow_eq_false]
    by_cases h : target = 0 ∨ target * 8192 ≤ l * 1000
    · simp only [if_pos (hmeets.2 h), if_pos h]
    · simp only [if_neg (mt hmeets.1 h), if_neg h]

/-- Only INJECTING and RETURNING/SLEWING have a formula (R112). -/
theorem formulaOf_of_idle {state : SecState} (hinject : state ≠ .injecting)
    (hslew : state ≠ .returningSlewing) (service : Service) (strategy : Strategy) :
    formulaOf state service strategy = .none := by
  cases state with
  | injecting => exact absurd rfl hinject
  | returningSlewing => exact absurd rfl hslew
  | out | bypassed | armed | watching | returningClosing | releasing | fault => rfl

/-! ### The section at the end of the frame (R107, R164) -/

/-- A section that holds no episode has no formula. -/
theorem formulaOf_of_free {state : SecState} (h : state.holdsEpisode = false) (service : Service)
    (strategy : Strategy) : formulaOf state service strategy = .none :=
  formulaOf_of_idle (by rintro rfl; cases h) (by rintro rfl; cases h) service strategy

/-- A new Section Table sends a section to BYPASSED or OUT, or leaves its state (R78). -/
theorem holdsEpisode_retabled {x : Section} (h : x.state.holdsEpisode = false)
    (configured inService : Bool) : (x.retabled configured inService).state.holdsEpisode = false := by
  unfold Section.retabled
  split
  · rfl
  · exact h
  · exact h
  · rfl
  · exact h

/-- A deferred application gives no section an episode to hold (R78, R164). -/
theorem holdsEpisode_deferredApply {s : State} {k : Fin 4}
    (h : (s.sec k).state.holdsEpisode = false) :
    ((deferredApply s).sec k).state.holdsEpisode = false := by
  unfold deferredApply
  split
  case h_1 t n _ =>
    change ((applyTable t (stagingImage n s.loader.staging) (closeLoad s)).sec k).state.holdsEpisode =
      false
    by_cases ht : t = .sections
    · subst ht
      rw [sec_applyTable_sections]
      exact holdsEpisode_retabled h _ _
    · rw [sec_applyTable_of_ne ht]
      split
      · rfl
      · exact h
  case h_2 => exact h
  case h_3 => exact h

/-- When the signal is lowered no section holds the episode (R107). -/
theorem holdsEpisode_of_ended {s : State} (h : (controllerWork s).ended = true) (k : Fin 4) :
    ((controllerWork s).state.sec k).state.holdsEpisode = false := by
  have hfree : ∀ secs : Four Section, noneHolds secs = true →
      (secs.get k).state.holdsEpisode = false := by
    intro secs hnone
    simp only [noneHolds, Bool.not_eq_true', Bool.or_eq_false_iff] at hnone
    obtain ⟨⟨⟨h0, h1⟩, h2⟩, h3⟩ := hnone
    match k with
    | 0 => exact h0
    | 1 => exact h1
    | 2 => exact h2
    | 3 => exact h3
  have hends : episodeEnds (placeSections (sectionFrames (raiseEpisode s)) (raiseEpisode s)) = true := h
  simp only [controllerWork, hends, if_true]
  change ((fullService _).get k).state.holdsEpisode = false
  rw [fullService, Four.get_map]
  simp only [episodeEnds, Bool.and_eq_true] at hends
  exact hfree _ hends.2

/-- The end of the frame shows each section with the formula that the injection unit has used: what
lowers the signal or applies a table meets no section that injects (R107, R112, R164). -/
theorem formulaOf_acceptedFrame (c : StepClass) (f : SampleFrame) (s : State) (k : Fin 4)
    (strategy : Strategy) :
    formulaOf ((controllerWork (judged c f s)).state.sec k).state
        ((controllerWork (judged c f s)).state.sec k).service strategy =
      formulaOf ((fillOutSlot (atSlot c f s)).sec k).state
        ((fillOutSlot (atSlot c f s)).sec k).service strategy := by
  have hrecorded : (recorded (judged c f s)).sec k = (controllerWork (judged c f s)).state.sec k := by
    obtain ⟨-, -, -, hcontroller⟩ := recorded_leaves (judged c f s)
    rw [State.sec, hcontroller, State.sec]
  have hslot : (fillOutSlot (atSlot c f s)).sec k = (beforeSlot (judged c f s)).sec k := by
    simp only [State.sec, fillOutSlot_leaves, atSlot]
  rw [hslot, beforeSlot_eq]
  split
  · rename_i hended
    have hfree := holdsEpisode_of_ended hended k
    rw [formulaOf_of_free hfree,
      formulaOf_of_free (holdsEpisode_deferredApply (by rw [hrecorded]; exact hfree))]
  · rw [hrecorded]

/-! ### The injection unit's items (R111, R118) -/

/-- The reference of a phase before the clamp, in an engine `t` whose tables are those of `s` (R112). -/
def rawRef (s t : State) (k : Fin 4) (p : Phase) : PhaseRef :=
  phaseRef (formulaOf (t.sec k).state (t.sec k).service (s.strategy k)) (s.target k)
    (t.demand.get k).floorTarget t.tracker.refAngle p (t.levels.supply.get p) (t.supplyValue p)

/-- What the injection unit publishes for a section, in an engine `t` whose tables are those of `s`
(R113, R117 to R119). -/
structure Injection.Publishes (s t : State) (k : Fin 4) (j : Injection) : Prop where
  uEff : j.uEff = effectiveLimit (s.limit k) t.dcValue
  refs : ∀ p, j.refs.get p = clampRef j.uEff (rawRef s t k p).value
  method : ∀ p, j.method.get p = (rawRef s t k p).method
  limited : j.limited = anyPhase (Phases.build fun p =>
    decide (j.refs.get p ≠ (rawRef s t k p).value))
  energy : j.energy = frameEnergy j.refs (Phases.build fun p => t.current k p)

/-- The unit publishes what it reads of the engine. -/
theorem injectSection_publishes (s : State) (k : Fin 4) : (injectSection s k).Publishes s s k where
  uEff := rfl
  refs p := by simp only [injectSection, Phases.get_build]; rfl
  method p := by simp only [injectSection, Phases.get_build]; rfl
  limited := by simp only [injectSection, Phases.get_build]; rfl
  energy := rfl

/-- The items depend on the limit, the values of the frame and the raw references alone. -/
theorem Injection.Publishes.congr {s t s' t' : State} {k : Fin 4} {j : Injection}
    (h : j.Publishes s t k) (hlimit : s'.limit k = s.limit k) (hvalues : t'.values = t.values)
    (hraw : ∀ p, rawRef s' t' k p = rawRef s t k p) : j.Publishes s' t' k := by
  have hdc : t'.dcValue = t.dcValue := by rw [State.dcValue, State.dcValue, hvalues]
  have hcurrent : t'.current k = t.current k := by
    funext p
    rw [State.current, State.current, hvalues]
  have hrawAll : rawRef s' t' k = rawRef s t k := funext hraw
  obtain ⟨huEff, hrefs, hmethod, hlimited, henergy⟩ := h
  exact ⟨by rw [hlimit, hdc]; exact huEff, by rw [hrawAll]; exact hrefs,
    by rw [hrawAll]; exact hmethod, by rw [hrawAll]; exact hlimited,
    by rw [hcurrent]; exact henergy⟩

/-- Section k's target, limit and strategy are read from the tables alone. -/
theorem injectionFields_congr {s t : State} (h : t.loader = s.loader) (k : Fin 4) :
    t.target k = s.target k ∧ t.limit k = s.limit k ∧ t.strategy k = s.strategy k := by
  have hfield : t.secField = s.secField := by
    funext k j
    rw [State.secField, State.secField, field_congr h]
  refine ⟨?_, ?_, ?_⟩
  · rw [State.target, State.target, hfield]
  · rw [State.limit, State.limit, hfield]
  · rw [State.strategy, State.strategy, hfield]

/-- What the unit reads of front end, demand and tracker is what the frame leaves (R20, R164). -/
theorem injectionInputs_acceptedFrame (c : StepClass) (f : SampleFrame) (s : State) :
    (controllerWork (judged c f s)).state.front = (fillOutSlot (atSlot c f s)).front ∧
    (controllerWork (judged c f s)).state.demand = (fillOutSlot (atSlot c f s)).demand ∧
    (controllerWork (judged c f s)).state.tracker.refAngle =
      (fillOutSlot (atSlot c f s)).tracker.refAngle := by
  simp [atSlot, Tracker.refAngle]

/-- The raw references of a frame are those of the engine that it leaves. -/
theorem rawRef_acceptedFrame (c : StepClass) (f : SampleFrame) (s : State) (k : Fin 4) (p : Phase) :
    rawRef s (controllerWork (judged c f s)).state k p =
      rawRef s (fillOutSlot (atSlot c f s)) k p := by
  obtain ⟨hfront, hdemand, hangle⟩ := injectionInputs_acceptedFrame c f s
  simp only [rawRef, formulaOf_acceptedFrame, hdemand, hangle, State.levels, State.supplyValue,
    State.values, hfront]

/-- A configured frame leaves in each item what the unit publishes (R111, R118). -/
theorem injection_acceptedFrame {c : StepClass} {f : SampleFrame} {s : State}
    (hconf : s.configured = true) (k : Fin 4) :
    ((fillOutSlot (atSlot c f s)).injection.get k).Publishes s (fillOutSlot (atSlot c f s)) k := by
  have hloader : (controllerWork (judged c f s)).state.loader = s.loader := by
    rw [← (loader_stages c f s).2.2]
    simp
  have hunit : (controllerWork (judged c f s)).state.configured = true :=
    (configured_inService_congr (congrArg Loader.tables hloader)).1.trans hconf
  have hitem : (fillOutSlot (atSlot c f s)).injection.get k =
      injectSection (controllerWork (judged c f s)).state k := by
    have hwork := injection_answerFrame (judged c f s)
    rw [injectionWork, if_pos hunit] at hwork
    exact (congrArg (Four.get · k) hwork).trans (Four.get_build _ k)
  obtain ⟨htarget, hlimit, hstrategy⟩ := injectionFields_congr hloader k
  obtain ⟨hfront, -, -⟩ := injectionInputs_acceptedFrame c f s
  rw [hitem]
  refine (injectSection_publishes _ k).congr hlimit.symm ?_ fun p => ?_
  · rw [State.values, State.values, hfront]
  · rw [← rawRef_acceptedFrame, rawRef, rawRef, htarget, hstrategy]

/-- Without a formula a section has no reference, no method, no mark and no energy (R112, R119). -/
theorem Injection.Publishes.idle {s t : State} {k : Fin 4} {j : Injection} (h : j.Publishes s t k)
    (hinject : (t.sec k).state ≠ .injecting) (hslew : (t.sec k).state ≠ .returningSlewing) :
    j.refs = ⟨0, 0, 0⟩ ∧ j.method = ⟨.none, .none, .none⟩ ∧ j.limited = false ∧ j.energy = 0 := by
  have hraw : ∀ p, rawRef s t k p = ⟨0, .none⟩ := by
    intro p
    rw [rawRef, formulaOf_of_idle hinject hslew, phaseRef]
  have hrefs : j.refs = Phases.all 0 := Phases.ext_get fun p => by
    rw [h.refs, hraw, Phases.get_all]
    exact clampInt_of_mem (x := 0) (by omega) (by omega)
  have hmethod : j.method = Phases.all .none := Phases.ext_get fun p => by
    rw [h.method, hraw, Phases.get_all]
  refine ⟨hrefs, hmethod, ?_, ?_⟩
  · rw [h.limited, hrefs]
    simp only [hraw, Phases.get_all]
    rfl
  · rw [h.energy, hrefs]
    simp [frameEnergy, truncDiv, Phases.all]

/-- Settles O21: the frame leaves what the unit publishes, and each formula is that of its case. -/
theorem injectionReferences : Obligations.InjectionReferences := by
  intro c f s k hacc hconf
  have hitem := injection_acceptedFrame (c := c) (f := f) hconf k
  refine ⟨_, exec_sampleFrame_of_accepted hacc, hitem.uEff.trans (effectiveLimit_eq _ _),
    fun p => ?within, hitem.idle, fun p hinject => ⟨fun hfull hrestore => ?restore,
      fun hfull hinphase => ?inphase, fun hdegraded => ?floor⟩, fun p hslew => ?slew, ?energy⟩
  case within =>
    rw [hitem.refs]
    exact clampRef_natAbs_le _ _
  case restore =>
    rw [hitem.refs, rawRef, hinject, hfull, hrestore]
    rfl
  case inphase =>
    rw [hitem.refs, rawRef, hinject, hfull, hinphase]
    exact congrArg (clampRef _) (scaledRef_value _ _ _ _ _ _)
  case floor =>
    rw [hitem.refs, rawRef, hinject, hdegraded]
    refine congrArg (clampRef _) ((floorRef_value _ _ _ _ _).trans ?_)
    simp only [scaledRef_value]
    rfl
  case slew =>
    rw [hitem.refs, rawRef, hslew]
    rfl
  case energy => exact hitem.energy

end Sys2Proof.Machine
end

section
/-! PROOFS. The out slot after a DRIVE frame of either origin: what has left before it, and the choice it
makes (R126, R127, R171, R173, R181). -/

namespace Sys2Proof.Machine

/-! ### After the DRIVE frame of an accepted frame (R126) -/

/-- When the slot of an accepted frame is filled its DRIVE frame alone has left, and the request with its
answer stands. -/
theorem atSlot_leaves (c : StepClass) (f : SampleFrame) (s : State) :
    (atSlot c f s).outPort.length = 1 ∧
    (atSlot c f s).management.queue = s.management.queue ∧
    (atSlot c f s).management.slot = s.management.slot ∧
    (atSlot c f s).management.snapshot = s.management.snapshot := by
  have hport : (atSlot c f s).outPort =
      [(sampleDrive (injectionWork (controllerWork (judged c f s)).state)).words] := by
    rw [atSlot, beforeSlot_eq]
    split <;> simp [recorded, answered, judged, measured]
  rw [hport]
  simp [atSlot, judged, measured]

/-! ### After a silence expiry (R127) -/

/-- When the slot after a safe DRIVE frame is filled that frame alone has left, LINK_SILENT is set, and the
request with its answer stands. -/
theorem atSilentSlot_leaves (s : State) :
    (atSilentSlot s).outPort.length = 1 ∧
    (atSilentSlot s).management.queue = s.management.queue ∧
    (atSilentSlot s).management.slot = s.management.slot ∧
    (atSilentSlot s).management.snapshot = s.management.snapshot ∧
    (atSilentSlot s).management.alerts.get .linkSilent = some ⟨0, 0⟩ := by
  have hsilent := (alerts_lowerAndApply (by decide) (blocksSilenced s.begin)).trans
    (alerts_blocksSilenced s.begin).1
  exact ⟨by simp [atSilentSlot], by simp [atSilentSlot], by simp [atSilentSlot],
    by simp [atSilentSlot], hsilent⟩

/-- An expiry in RUNNING that moves a section fills the slot after its safe DRIVE frame. -/
theorem expiryRunning_of_active {s : State} (h : anyActive s.controller.sections = true) :
    expiryRunning s.begin = fillOutSlot (atSilentSlot s) := if_pos h

/-- Settles O23: in both cases the slot makes the choice of R181 in the engine as the DRIVE frame has left
it. -/
theorem outSlotChoice : Obligations.OutSlotChoice := by
  refine ⟨fun c f s hacc => ?frame, fun s hline htimer hrun => ?expiry⟩
  case frame =>
    obtain ⟨hport, hqueue, hslot, hsnapshot⟩ := atSlot_leaves c f s
    have hexec := exec_sampleFrame_of_accepted hacc
    exact ⟨_, hexec, hexec, hport, hqueue, hslot, hsnapshot, fillOutSlot_choice _⟩
  case expiry =>
    have hexpires : silenceExpires s.begin = expiryRunning s.begin := by
      rw [silenceExpires_of_timer (s := s.begin) hline htimer, controller_begin, hrun]
    have hexec : exec (.answerPart .silence) s = .next (expiryRunning s.begin) :=
      congrArg Host.Outcome.next hexpires
    refine ⟨_, hexec, hexec, (outPort_expiryRunning (outPort_begin s)).1, fun hactive => ?_⟩
    obtain ⟨hport, hqueue, hslot, hsnapshot, hsilent⟩ := atSilentSlot_leaves s
    rw [expiryRunning_of_active hactive]
    exact ⟨hport, hqueue, hslot, hsnapshot, hsilent, fillOutSlot_choice _⟩

end Sys2Proof.Machine
end

section
/-! PROOFS. The store allocator in an accepted frame: F, bands, ready marks and the arming of STORE_LOW,
read at the end of the frame (R132 to R141). -/

namespace Sys2Proof.Machine

/-! ### Store level and bands (R133, R135) -/

/-- At or below the floor voltage F is 0 (R133). -/
theorem storeLevel_of_le {vmin : Nat} {v : Int} (h : v ≤ vmin) : storeLevel vmin v = 0 := if_pos h

/-- Above it F is the share of the energy between floor and nominal voltage, at most 1000 (R133). -/
theorem storeLevel_of_lt {vmin : Nat} {v : Int} (h : (vmin : Int) < v) :
    storeLevel vmin v = min 1000 (1000 * (v.toNat ^ 2 - vmin ^ 2) / (8192 ^ 2 - vmin ^ 2)) := by
  simp only [storeLevel, if_neg (Int.not_le.2 h), Config.nominal, Nat.pow_two]

/-- Where release lies at or below degrade, the band tells on which side of each F lies (R135). -/
theorem bandOf_iff {degrade release : Nat} (h : release ≤ degrade) (f : Nat) :
    (bandOf degrade release f = .serve ↔ degrade ≤ f) ∧
    (bandOf degrade release f = .degrade ↔ release ≤ f ∧ f < degrade) ∧
    (bandOf degrade release f = .release ↔ f < release) := by
  unfold bandOf
  by_cases hrelease : f < release
  · simp only [if_pos hrelease, reduceCtorEq, false_iff, true_iff]
    omega
  · by_cases hdegrade : f < degrade
    · simp only [if_neg hrelease, if_pos hdegrade, reduceCtorEq, false_iff, true_iff]
      omega
    · simp only [if_neg hrelease, if_neg hdegrade, reduceCtorEq, false_iff, true_iff]
      omega

/-! ### The arming of STORE_LOW (R140, R141) -/

/-- Below release_0 the arming is cleared, from ready_0 on it is set, and between the two it stands. -/
theorem lowArmed_allocate {l : StoreLevels} (h : l.release.get 0 ≤ l.ready.get 0) (v : Int)
    (a : Allocator) :
    (storeLevel l.vmin v < l.release.get 0 → (allocate l v a).lowArmed = false) ∧
    (l.ready.get 0 ≤ storeLevel l.vmin v → (allocate l v a).lowArmed = true) ∧
    (l.release.get 0 ≤ storeLevel l.vmin v → storeLevel l.vmin v < l.ready.get 0 →
      (allocate l v a).lowArmed = a.lowArmed) := by
  have harmed : (allocate l v a).lowArmed =
      if l.ready.get 0 ≤ storeLevel l.vmin v then true
      else if storeLevel l.vmin v < l.release.get 0 then false else a.lowArmed := rfl
  refine ⟨fun hlow => ?below, fun hready => ?ready, fun hrelease hbetween => ?between⟩
  case below => rw [harmed, if_neg (by omega), if_pos hlow]
  case ready => rw [harmed, if_pos hready]
  case between => rw [harmed, if_neg (by omega), if_neg (by omega)]

/-! ### The allocator in a frame (R132) -/

/-- A configured engine allocates by the levels held. -/
theorem store_storeWork {s : State} {l : StoreLevels} (hconf : s.configured = true)
    (hlevels : s.store.levels = some l) : (storeWork s).store = allocate l s.dcValue s.store := by
  simp only [storeWork, hconf, hlevels]
  split <;> simp

/-- An armed allocator that finds F below release_0 raises STORE_LOW with F (R140). -/
theorem alerts_storeWork_of_low {s : State} {l : StoreLevels} (hconf : s.configured = true)
    (hlevels : s.store.levels = some l) (harmed : s.store.lowArmed = true)
    (hlow : storeLevel l.vmin s.dcValue < l.release.get 0) :
    (storeWork s).management.alerts.get .storeLow =
      some (payload1 (storeLevel l.vmin s.dcValue)) := by
  have hdue : storeLowDue l s.dcValue s.store = true := by
    rw [storeLowDue, harmed, Bool.true_and]
    exact decide_eq_true hlow
  simp [storeWork, hconf, hlevels, hdue, Management.raised, allocate]

/-- What the allocator reads in a frame: tables and levels stand, the DC value is the frame's own, and
the tracker's first part has left its items alone. -/
theorem storeInputs_trackerFirst (c : StepClass) (f : SampleFrame) (s : State) :
    (trackerFirst s.previous c.gap (measured c f s)).configured = s.configured ∧
    (trackerFirst s.previous c.gap (measured c f s)).store = s.store ∧
    (trackerFirst s.previous c.gap (measured c f s)).dcValue =
      (fillOutSlot (atSlot c f s)).dcValue :=
  ⟨(configured_inService_congr (by simp [measured])).1, by simp [measured],
    by simp [State.dcValue, State.values, atSlot, judged]⟩

/-- A configured frame leaves the allocator's items as it has made them of the frame's DC value; a
deferred application changes at most the levels held (R131, R164). -/
theorem store_acceptedFrame {c : StepClass} {f : SampleFrame} {s : State} {l : StoreLevels}
    (hconf : s.configured = true) (hlevels : s.store.levels = some l) :
    let t := fillOutSlot (atSlot c f s)
    t.store.level = storeLevel l.vmin t.dcValue ∧
    (∀ i, t.store.band.get i = bandOf (l.degrade.get i) (l.release.get i) t.store.level) ∧
    (∀ i, t.store.ready.get i = decide (l.ready.get i ≤ t.store.level)) ∧
    t.store.lowArmed = (allocate l t.dcValue s.store).lowArmed := by
  obtain ⟨hconfigured, hstore, hdc⟩ := storeInputs_trackerFirst c f s
  have hjudged : (judged c f s).store =
      allocate l (fillOutSlot (atSlot c f s)).dcValue s.store := by
    simp only [judged, judgeFrame, demandWork_leaves, trackerSecond_leaves, detectorWork_leaves]
    rw [store_storeWork (hconfigured.trans hconf) (by rw [hstore, hlevels]), hstore, hdc]
  simp only [atSlot, fillOutSlot_leaves, beforeSlot_leaves] at hjudged ⊢
  simp [hjudged, allocate]

/-- STORE_LOW of an armed frame with F below release_0 is reported at its end (R140). -/
theorem reports_storeLow {c : StepClass} {f : SampleFrame} {s : State} {l : StoreLevels}
    (hconf : s.configured = true) (hlevels : s.store.levels = some l)
    (harmed : s.store.lowArmed = true)
    (hlow : storeLevel l.vmin (fillOutSlot (atSlot c f s)).dcValue < l.release.get 0) :
    (fillOutSlot (atSlot c f s)).reports .storeLow
      (payload1 (storeLevel l.vmin (fillOutSlot (atSlot c f s)).dcValue)) = true := by
  obtain ⟨hconfigured, hstore, hdc⟩ := storeInputs_trackerFirst c f s
  refine fillOutSlot_reports ?_
  rw [atSlot, alerts_beforeSlot rfl (by decide) (by decide) (by decide)]
  simp only [judged, judgeFrame, demandWork_leaves, trackerSecond_leaves, detectorWork_leaves]
  rw [← hdc] at hlow
  rw [alerts_storeWork_of_low (hconfigured.trans hconf) (by rw [hstore, hlevels])
    (by rw [hstore, harmed]) hlow, hdc]
  rfl

/-- Settles O19: F is the store level of the frame's DC value, and each band is that of F. -/
theorem storeLevelAndBands : Obligations.StoreLevelAndBands := by
  intro c f s l hacc hconf hlevels hordered
  obtain ⟨hlevel, hband, -, -⟩ := store_acceptedFrame (c := c) (f := f) hconf hlevels
  refine ⟨_, exec_sampleFrame_of_accepted hacc, fun hfloor => ?floor, fun habove => ?above, ?bound,
    fun i => ?bands⟩
  case floor => exact hlevel.trans (storeLevel_of_le hfloor)
  case above => exact hlevel.trans (storeLevel_of_lt habove)
  case bound => exact hlevel ▸ storeLevel_le _ _
  case bands =>
    rw [hband]
    exact bandOf_iff (hordered i) _

/-- Settles O20: the ready marks and the arming are the allocator's, and the alert of an armed frame
below release_0 stands until its out slot. -/
theorem readyMarksAndStoreLow : Obligations.ReadyMarksAndStoreLow := by
  intro c f s l hacc hconf hlevels hordered
  obtain ⟨hlevel, -, hready, harmed⟩ := store_acceptedFrame (c := c) (f := f) hconf hlevels
  obtain ⟨hcleared, hset, hstands⟩ :=
    lowArmed_allocate hordered (fillOutSlot (atSlot c f s)).dcValue s.store
  refine ⟨_, exec_sampleFrame_of_accepted hacc, fun i => by rw [hready, decide_eq_true_eq], ?_⟩
  rw [hlevel, harmed]
  exact ⟨fun hlow => ⟨hcleared hlow, fun hwas => reports_storeLow hconf hlevels hwas hlow⟩, hset,
    hstands⟩

end Sys2Proof.Machine
end

section
/-! PROOFS. The record list: two updates of the OPEN record are one, the numbers of a list and which of its
records is OPEN, and the record unit's work on a frame as one update (R147 to R153). -/

namespace Sys2Proof.Machine

/-! ### Updates of the OPEN record -/

/-- A newest record that is OPEN is updated. -/
theorem updateOpen_append_of_open (g : Record → Record) (rs : List Record) {r : Record}
    (h : r.isOpen = true) : updateOpen g (rs ++ [r]) = rs ++ [g r] := by
  rw [updateOpen_append, if_pos h]

/-- A newest record that is CLOSED stands. -/
theorem updateOpen_append_of_closed (g : Record → Record) (rs : List Record) {r : Record}
    (h : r.isOpen = false) : updateOpen g (rs ++ [r]) = rs ++ [r] := by
  rw [updateOpen_append, h, if_neg Bool.false_ne_true]

/-- A list of records is empty, or has a newest one. -/
theorem records_cases (rs : List Record) : rs = [] ∨ ∃ qs r, rs = qs ++ [r] := by
  rcases List.eq_nil_or_concat rs with h | ⟨qs, r, h⟩
  · exact .inl h
  · exact .inr ⟨qs, r, h.trans List.concat_eq_append⟩

/-- Two updates are one when the first leaves an OPEN record OPEN. -/
theorem updateOpen_updateOpen {g h : Record → Record}
    (hopen : ∀ r, r.isOpen = true → (h r).isOpen = true) (rs : List Record) :
    updateOpen g (updateOpen h rs) = updateOpen (fun r => g (h r)) rs := by
  rcases records_cases rs with rfl | ⟨qs, r, rfl⟩
  · rfl
  · cases hr : r.isOpen with
    | true => simp only [updateOpen_append_of_open _ _ hr, updateOpen_append_of_open _ _ (hopen r hr)]
    | false => simp only [updateOpen_append_of_closed _ _ hr]

/-- A record that is CLOSED stays in the list as it is. -/
theorem mem_updateOpen_of_closed {g : Record → Record} {rs : List Record} {r : Record} (hr : r ∈ rs)
    (hclosed : r.isOpen = false) : r ∈ updateOpen g rs := by
  rcases records_cases rs with rfl | ⟨qs, q, rfl⟩
  · exact hr
  · cases hq : q.isOpen with
    | false => rwa [updateOpen_append_of_closed _ _ hq]
    | true =>
      rw [updateOpen_append_of_open _ _ hq]
      rcases List.mem_append.1 hr with hold | hnew
      · exact List.mem_append_left _ hold
      · rw [List.mem_singleton.1 hnew, hq] at hclosed
        cases hclosed

/-- The removal of the oldest record and an update come to the same in either order. -/
theorem tail_updateOpen (g : Record → Record) (rs : List Record) :
    (updateOpen g rs).tail = updateOpen g rs.tail := by
  match rs with
  | [] | [_] | _ :: _ :: _ => rfl

/-- An update that keeps the number of a record keeps the numbers of the list. -/
theorem map_seq_updateOpen {g : Record → Record} (hg : ∀ r, (g r).seq = r.seq) (rs : List Record) :
    (updateOpen g rs).map Record.seq = rs.map Record.seq := by
  rcases records_cases rs with rfl | ⟨qs, r, rfl⟩
  · rfl
  · cases hr : r.isOpen with
    | true => simp [updateOpen_append_of_open _ _ hr, hg]
    | false => rw [updateOpen_append_of_closed _ _ hr]

/-- The record unit's list with its OPEN record updated. -/
def Records.withOpen (g : Record → Record) (rs : Records) : Records :=
  { rs with list := updateOpen g rs.list }

@[simp] theorem Records.withOpen_items (g : Record → Record) (rs : Records) :
    (rs.withOpen g).list = updateOpen g rs.list ∧ (rs.withOpen g).nextSeq = rs.nextSeq := ⟨rfl, rfl⟩

/-- The engine's update of its OPEN record is one of the record unit. -/
theorem records_updateOpenRecord (g : Record → Record) (s : State) :
    (s.updateOpenRecord g).records = s.records.withOpen g := rfl

/-- Two updates are one when the first leaves an OPEN record OPEN. -/
theorem Records.withOpen_withOpen {g h : Record → Record}
    (hopen : ∀ r, r.isOpen = true → (h r).isOpen = true) (rs : Records) :
    (rs.withOpen h).withOpen g = rs.withOpen fun r => g (h r) := by
  simp only [Records.withOpen, updateOpen_updateOpen hopen]

/-- The update that changes nothing. -/
theorem Records.withOpen_id (rs : Records) : rs.withOpen id = rs := by
  have hsame : updateOpen id rs.list = rs.list := by
    rcases records_cases rs.list with h | ⟨qs, r, h⟩ <;> rw [h]
    · rfl
    · rw [updateOpen_append, id, ite_self]
  rw [Records.withOpen, hsame]

/-! ### Consecutive numbers (R147) -/

/-- Whether a list is numbered consecutively depends on its numbers alone. -/
theorem consecutive_congr {next : Word} {rs qs : List Record}
    (h : qs.map Record.seq = rs.map Record.seq) : consecutive next qs = consecutive next rs := by
  induction rs generalizing qs with
  | nil => rw [List.map_eq_nil_iff.1 h]
  | cons r rs ih =>
    obtain ⟨q, qs, rfl, hseq, htail⟩ := List.map_eq_cons_iff.1 h
    match rs, qs with
    | [], [] => simp only [consecutive, hseq]
    | [], _ :: _ | _ :: _, [] => cases htail
    | r' :: rs, q' :: qs =>
      have hnext : q'.seq = r'.seq := (List.cons.inj htail).1
      simp only [consecutive, hseq, hnext, ih htail]

/-- The newer records of a consecutive list are consecutive. -/
theorem consecutive_tail {next : Word} {rs : List Record} (h : consecutive next rs = true) :
    consecutive next rs.tail = true := by
  match rs with
  | [] | [_] => rfl
  | _ :: _ :: _ => exact (Bool.and_eq_true_iff.1 h).2

/-- A record with the next number goes on with a consecutive list. -/
theorem consecutive_append {next : Word} {rs : List Record} {r : Record}
    (h : consecutive next rs = true) (hr : r.seq = next) : consecutive (next + 1) (rs ++ [r]) = true := by
  induction rs with
  | nil => simp [consecutive, hr]
  | cons q qs ih =>
    have hmore := ih (consecutive_tail h)
    match qs with
    | [] =>
      have hlast : q.seq + 1 = next := beq_iff_eq.1 h
      simp [consecutive, hr, ← hlast]
    | p :: ps => exact Bool.and_eq_true_iff.2 ⟨(Bool.and_eq_true_iff.1 h).1, hmore⟩

/-! ### Which record is OPEN (R148) -/

/-- Every record but the newest is CLOSED, and the newest is OPEN exactly when `episode` is set. -/
def openOnlyNewest (rs : List Record) (episode : Bool) : Prop :=
  (∀ r ∈ rs.dropLast, r.isOpen = false) ∧ (openRecord rs).isSome = episode

/-- The law of the model says this of the list and the signal. -/
theorem openExactlyInEpisode_iff (s : State) :
    openExactlyInEpisode s = true ↔ openOnlyNewest s.records.list s.controller.episode := by
  simp [openExactlyInEpisode, openOnlyNewest]

/-- In an empty list no record is OPEN. -/
theorem openOnlyNewest_nil (episode : Bool) : openOnlyNewest [] episode ↔ episode = false := by
  cases episode <;> simp [openOnlyNewest, openRecord, newest]

/-- In a list with a newest record the older ones are CLOSED, and the newest shows the signal. -/
theorem openOnlyNewest_append (rs : List Record) (r : Record) (episode : Bool) :
    openOnlyNewest (rs ++ [r]) episode ↔ (∀ q ∈ rs, q.isOpen = false) ∧ r.isOpen = episode := by
  have hsome : (openRecord (rs ++ [r])).isSome = r.isOpen := by
    cases h : r.isOpen <;> simp [openRecord, newest, h]
  rw [openOnlyNewest, List.dropLast_concat, hsome]

/-- Outside an episode every record is CLOSED. -/
theorem openOnlyNewest_false (rs : List Record) :
    openOnlyNewest rs false ↔ ∀ r ∈ rs, r.isOpen = false := by
  rcases records_cases rs with rfl | ⟨qs, r, rfl⟩
  · simp [openOnlyNewest_nil]
  · simp [openOnlyNewest_append, or_imp, forall_and]

/-- An update that leaves the OPEN record OPEN, or closes it, goes with the signal kept, or lowered. -/
theorem openOnlyNewest_updateOpen {g : Record → Record} {stays episode : Bool} {rs : List Record}
    (hg : ∀ r, r.isOpen = true → (g r).isOpen = stays) (h : openOnlyNewest rs episode) :
    openOnlyNewest (updateOpen g rs) (episode && stays) := by
  rcases records_cases rs with rfl | ⟨qs, r, rfl⟩
  · rw [(openOnlyNewest_nil episode).1 h]
    exact (openOnlyNewest_nil _).2 rfl
  · obtain ⟨hold, rfl⟩ := (openOnlyNewest_append qs r episode).1 h
    cases hr : r.isOpen with
    | true =>
      rw [updateOpen_append_of_open _ _ hr]
      exact (openOnlyNewest_append _ _ _).2 ⟨hold, hg r hr⟩
    | false =>
      rw [updateOpen_append_of_closed _ _ hr]
      exact (openOnlyNewest_append _ _ _).2 ⟨hold, hr⟩

/-- The removal of a CLOSED oldest record leaves the others as they are. -/
theorem openOnlyNewest_of_cons {r : Record} {rs : List Record} {episode : Bool}
    (hclosed : r.isOpen = false) (h : openOnlyNewest (r :: rs) episode) :
    openOnlyNewest rs episode := by
  rcases records_cases rs with rfl | ⟨qs, q, rfl⟩
  · exact (openOnlyNewest_nil _).2 (((openOnlyNewest_append [] r _).1 h).2.symm.trans hclosed)
  · obtain ⟨hold, hnew⟩ := (openOnlyNewest_append (r :: qs) q _).1 h
    exact (openOnlyNewest_append _ _ _).2 ⟨fun p hp => hold p (List.mem_cons_of_mem r hp), hnew⟩

/-! ### Outcomes handed to the OPEN record (R151) -/

/-- A record with the outcomes of all four sections handed in section order. -/
def Record.handedAll (os : Four (List EntryOutcome)) (r : Record) : Record :=
  four.foldl (fun r k => (os.get k).foldl (fun r o => r.handed k o) r) r

/-- Outcomes handed for one section reach its entry alone. -/
theorem foldl_handed_eq (k : Fin 4) (os : List EntryOutcome) (r : Record) :
    os.foldl (fun r o => r.handed k o) r = { r with entries := r.entries.map fun e =>
      { e with worst := if e.sec = k then os.foldl worse e.worst else e.worst } } := by
  induction os generalizing r with
  | nil => simp
  | cons o os ih =>
    rw [List.foldl_cons, ih]
    simp only [Record.handed_entries, List.map_map]
    refine congrArg (fun es => { r with entries := es }) (List.map_congr_left fun e _ => ?_)
    simp only [Function.comp_apply, List.foldl_cons]
    split <;> rfl

/-- Outcomes of all sections: each entry takes those of its section. -/
theorem Record.handedAll_eq (os : Four (List EntryOutcome)) (r : Record) :
    r.handedAll os = { r with entries := r.entries.map fun e =>
      { e with worst := (os.get e.sec).foldl worse e.worst } } := by
  simp only [Record.handedAll, four, List.foldl_cons, List.foldl_nil, foldl_handed_eq, List.map_map]
  refine congrArg (fun es => { r with entries := es }) (List.map_congr_left fun e _ => ?_)
  obtain ⟨sec, worst, first, least, energy⟩ := e
  match sec with
  | 0 | 1 | 2 | 3 => simp

/-- Outcomes of all sections are one update of the OPEN record. -/
theorem handAll_eq (os : Four (List EntryOutcome)) (s : State) :
    handAll os s = s.updateOpenRecord (Record.handedAll os) := by
  have hkeeps : ∀ (k : Fin 4) (os : List EntryOutcome) (r : Record), r.isOpen = true →
      (os.foldl (fun r o => r.handed k o) r).isOpen = true := by
    intro k os r hr
    rw [foldl_handed_eq]
    exact hr
  simp only [handAll, handOutcomes, State.updateOpenRecord]
  rw [updateOpen_updateOpen (hkeeps 0 os.i0),
    updateOpen_updateOpen fun r hr => hkeeps 1 _ _ (hkeeps 0 _ r hr),
    updateOpen_updateOpen fun r hr => hkeeps 2 _ _ (hkeeps 1 _ _ (hkeeps 0 _ r hr))]
  rfl

/-! ### The record unit's work on a frame -/

/-- What a frame makes of the OPEN record: the outcomes, the frame's own values, and its end when the
episode has ended (R150 to R153). -/
def Record.framed (os : Four (List EntryOutcome)) (ended : Bool) (s : State) (r : Record) : Record :=
  let u := (r.handedAll os).updated s
  if ended then u.closed .recovered s.frameNumber else u

/-- A frame keeps the record's number, and leaves it OPEN unless the episode has ended. -/
theorem Record.framed_leaves (os : Four (List EntryOutcome)) (ended : Bool) (s : State) (r : Record) :
    (r.framed os ended s).seq = r.seq ∧
    (r.isOpen = true → (r.framed os ended s).isOpen = !ended) := by
  simp only [Record.framed, Record.handedAll_eq]
  cases ended with
  | true => exact ⟨rfl, fun _ => rfl⟩
  | false => exact ⟨rfl, fun h => h⟩

/-- The records once a sag start has opened its own (R149). -/
def opened (s : State) : Records := (if s.sagStarts then openNew s else s).records

/-- Outcomes and updates of a frame are one update of the OPEN record, whether a sag start has opened it in
the frame or not: they read nothing of the list. -/
theorem records_updated {s u : State} (hu : u = s ∨ u = openNew s) (os : Four (List EntryOutcome)) :
    ((handAll os u).updateOpenRecord (Record.updated (handAll os u))).records =
      u.records.withOpen (Record.framed os false s) ∧
    ((handAll os u).updateOpenRecord (Record.updated (handAll os u))).frameNumber = s.frameNumber := by
  have hkeeps : ∀ r : Record, r.isOpen = true → (r.handedAll os).isOpen = true := by
    intro r hr
    rw [Record.handedAll_eq]
    exact hr
  have hreads : Record.updated (u.updateOpenRecord (Record.handedAll os)) = Record.updated s := by
    rcases hu with rfl | rfl <;> rfl
  rw [handAll_eq, hreads, records_updateOpenRecord, records_updateOpenRecord,
    Records.withOpen_withOpen hkeeps]
  refine ⟨rfl, ?_⟩
  rcases hu with rfl | rfl <;> rfl

/-- The end of the episode closes the record of the frame (R153). -/
theorem records_closeRecord_framed {s v : State} {rs : Records} {os : Four (List EntryOutcome)}
    (hv : v.records = rs.withOpen (Record.framed os false s)) (hframe : v.frameNumber = s.frameNumber) :
    (closeRecord .recovered v).records = rs.withOpen (Record.framed os true s) := by
  rw [closeRecord, hframe, records_updateOpenRecord, hv,
    Records.withOpen_withOpen fun r hr => (r.framed_leaves os false s).2 hr]
  rfl

/-- The record unit's work on a frame is one update of the OPEN record, after a sag start has opened its
own (R149 to R153). -/
theorem records_recordWork (os : Four (List EntryOutcome)) (ended : Bool) (s : State) :
    (recordWork os ended s).records = (opened s).withOpen (Record.framed os ended s) := by
  have hcase : (if s.sagStarts then openNew s else s) = s ∨
      (if s.sagStarts then openNew s else s) = openNew s := by
    split
    · exact .inr rfl
    · exact .inl rfl
  obtain ⟨hupdated, hframe⟩ := records_updated hcase os
  unfold recordWork
  dsimp only
  split
  · rename_i hended
    rw [hended]
    have hclosed := records_closeRecord_framed hupdated hframe
    split
    · exact hclosed
    · rename_i hnone
      exact (closeRecord_of_none hnone _).symm.trans hclosed
  · rename_i hgoing
    rw [Bool.eq_false_iff.2 hgoing]
    exact hupdated

/-! ### The record opened in a sag-start frame (R149) -/

/-- The list with its OPEN record closed SUPERSEDED. -/
def superseded (s : State) : List Record :=
  updateOpen (Record.closed .superseded s.frameNumber) s.records.list

/-- A sag start supersedes, makes room and appends; otherwise the list stands. -/
theorem opened_eq (s : State) : opened s =
    if s.sagStarts then
      { list := makeRoom (superseded s) ++ [newRecord (closeRecord .superseded s)]
        nextSeq := s.records.nextSeq + 1 }
    else s.records := by
  unfold opened
  split <;> rfl

/-- Room is made by the removal of the oldest record, when the list holds 32. -/
theorem makeRoom_cases (rs : List Record) : makeRoom rs = rs ∨ makeRoom rs = rs.tail := by
  unfold makeRoom
  split
  · exact .inr rfl
  · exact .inl rfl

/-- Room for one more is made in a list of at most 32. -/
theorem length_makeRoom_le {rs : List Record} (h : rs.length ≤ 32) : (makeRoom rs).length ≤ 31 := by
  unfold makeRoom Config.recordCapacity
  split
  · rw [List.length_tail]
    omega
  · omega

/-- Every record but the oldest stays when room is made. -/
theorem mem_makeRoom {rs : List Record} {r : Record} (h : r ∈ rs.tail) : r ∈ makeRoom rs := by
  rcases makeRoom_cases rs with hall | htail
  · rw [hall]
    exact List.mem_of_mem_tail h
  · rwa [htail]

end Sys2Proof.Machine
end

section
/-! PROOFS. What a request, a silence expiry and a frame can do to an episode: its records, its signal, the
detector and the sections (R94, R107, R147 to R156). -/

namespace Sys2Proof.Machine

/-! ### A quiet engine (R94, R107) -/

/-- A section as it is outside an episode: not WATCHING, INJECTING or RETURNING, and at FULL service. -/
def Section.calm (x : Section) : Prop := x.state.inEpisodeOnly = false ∧ x.service = .full

/-- Outside an episode the detector is CLEAR or SUSPECT and every section is calm. -/
def calmOutside (s : State) : Prop :=
  s.controller.episode = false → s.detector.inSag = false ∧ ∀ k, (s.sec k).calm

/-- The law of the model says this. -/
theorem episodeLawful_iff (s : State) : episodeLawful s = true ↔ calmOutside s := by
  unfold episodeLawful calmOutside
  rw [Bool.or_eq_true, Bool.and_eq_true, Four.all_toList]
  cases s.controller.episode <;> simp [Section.calm, State.sec]

/-- A new Section Table keeps a section calm (R78). -/
theorem calm_retabled {x : Section} (h : x.calm) (configured inService : Bool) :
    (x.retabled configured inService).calm := by
  obtain ⟨hstate, hservice⟩ := h
  unfold Section.retabled
  split
  case h_1 | h_4 => exact ⟨rfl, hservice⟩
  case h_2 | h_3 | h_5 => exact ⟨hstate, hservice⟩

/-- A silence expiry leaves no section in an episode, and every service level as it stands (R100). -/
theorem silenced_leaves (x : Section) :
    x.silenced.state.inEpisodeOnly = false ∧ x.silenced.service = x.service := by
  cases h : x.state.active with
  | true => rw [(silenced_of_active h).1, Section.silenced, if_pos h]; exact ⟨rfl, rfl⟩
  | false =>
    rw [silenced_of_inactive h]
    refine ⟨?_, rfl⟩
    revert h
    cases x.state <;> simp [SecState.active, SecState.inEpisodeOnly]

/-- A restart leaves no section in an episode, and every service level as it stands (R81). -/
theorem restarted_leaves (x : Section) :
    x.restarted.state.inEpisodeOnly = false ∧ x.restarted.service = x.service := by
  obtain ⟨-, -, -, -, -, -, -, -, hservice, -⟩ := restarted_all x
  refine ⟨?_, hservice⟩
  unfold Section.restarted
  cases h : x.state <;> simp [Section.dropPending, SecState.inEpisodeOnly, h]

/-- HALT leaves no section in an episode, and every service level as it stands (R80). -/
theorem haltSection_leaves (k : Fin 4) (x : Section) :
    (haltSection k x).sec.state.inEpisodeOnly = false ∧
    (haltSection k x).sec.service = x.service := by
  unfold haltSection
  cases h : x.state <;> simp [Section.dropPending, Moved.quiet, SecState.inEpisodeOnly, h]

/-- A DISARM_SECTION that is accepted keeps a section calm (R103). -/
theorem calm_disarmed {k : Fin 4} {x : Section} {m : Moved} (h : disarmed k x = some m)
    (hx : x.calm) : m.sec.calm := by
  obtain ⟨hstate, hservice⟩ := hx
  unfold disarmed at h
  split at h <;> cases h
  case h_1 | h_6 | h_7 => exact ⟨hstate, hservice⟩
  case h_2 => exact ⟨rfl, hservice⟩
  case h_3 | h_4 | h_5 => exact ⟨rfl, by simp [hservice]⟩

/-! ### The application of a table (R78, R163, R164) -/

/-- A table applied outside an episode keeps detector and sections quiet. -/
theorem calm_applyTable (t : TableId) (image : List Word) {s : State} (k : Fin 4)
    (h : (s.sec k).calm) : ((applyTable t image s).sec k).calm := by
  by_cases ht : t = .sections
  · rw [ht, sec_applyTable_sections]
    exact calm_retabled h _ _
  · rw [sec_applyTable_of_ne ht]
    split
    · exact ⟨rfl, h.2⟩
    · exact h

/-- The application of a table leads the detector into no sag (R59). -/
theorem inSag_applyTable (t : TableId) (image : List Word) {s : State} (h : s.detector.inSag = false) :
    (applyTable t image s).detector.inSag = false := by
  have hdetector : (placeTable t image s).detector = s.detector := by simp
  rw [applyTable, detector_reactTo, hdetector]
  split
  · revert h
    unfold Detector.inSag Detector.retabled
    cases s.detector.state <;> simp
  · exact h

/-- A deferred application keeps detector and sections quiet (R164). -/
theorem calm_deferredApply {s : State} (hsag : s.detector.inSag = false)
    (hsecs : ∀ k, (s.sec k).calm) :
    (deferredApply s).detector.inSag = false ∧ ∀ k, ((deferredApply s).sec k).calm := by
  unfold deferredApply
  split
  · exact ⟨inSag_applyTable (s := closeLoad s) _ _ hsag,
      fun k => calm_applyTable (s := closeLoad s) _ _ k (hsecs k)⟩
  · exact ⟨hsag, hsecs⟩
  · exact ⟨hsag, hsecs⟩

/-! ### A section in a frame outside an episode (R84) -/

/-- A BYPASSED section stays BYPASSED or arms (R90, R102, R106). -/
theorem calm_decideBypassed (v : SectionView) {x : Section} (hx : x.calm) :
    (decideBypassed v x).sec.calm := by
  obtain ⟨hstate, hservice⟩ := hx
  unfold decideBypassed atBoundary
  dsimp only
  (repeat' split)
  case isFalse.isTrue.isTrue.isTrue | isFalse.isTrue.isFalse.isTrue => exact ⟨rfl, hservice⟩
  all_goals exact ⟨hstate, hservice⟩

/-- Without a sag start an ARMED section stays ARMED, disarms or faults. -/
theorem calm_decideArmed (k : Fin 4) {v : SectionView} (hstart : v.sagStart = false)
    (turnedOpen : Bool) {x : Section} (hx : x.calm) : (decideArmed k v turnedOpen x).sec.calm := by
  obtain ⟨hstate, hservice⟩ := hx
  unfold decideArmed
  rw [hstart]
  (repeat' split)
  · exact ⟨rfl, hservice⟩
  · exact ⟨by simp [SecState.inEpisodeOnly], by simp [hservice]⟩
  · contradiction
  · exact ⟨rfl, hservice⟩
  · exact ⟨hstate, hservice⟩

/-- A RELEASING section stays so, is closed or faults (R88). -/
theorem calm_decideReleasing (k : Fin 4) (closeTimesOut closeOk : Bool) {x : Section} (hx : x.calm) :
    (decideReleasing k closeTimesOut closeOk x).sec.calm := by
  obtain ⟨hstate, hservice⟩ := hx
  unfold decideReleasing
  (repeat' split)
  · exact ⟨by simp [closeStuckFault, SecState.inEpisodeOnly], by simp [closeStuckFault, hservice]⟩
  · exact ⟨rfl, hservice⟩
  · exact ⟨hstate, hservice⟩

/-- A FAULT section stays in FAULT (R88). -/
theorem calm_decideFault (k : Fin 4) (turnedOpen closeTimesOut closeOk : Bool) {x : Section}
    (hx : x.calm) : (decideFault k turnedOpen closeTimesOut closeOk x).sec.calm := by
  obtain ⟨hstate, hservice⟩ := hx
  unfold decideFault
  (repeat' split) <;> exact ⟨hstate, hservice⟩

/-- Outside SAG and ENDING, and without a sag start, the decision of R84 keeps a section calm. -/
theorem calm_decideByState (k : Fin 4) {v : SectionView} (hstart : v.sagStart = false)
    (n : ConfirmNews) {x : Section} (hx : x.calm) : (decideByState k v n x).sec.calm := by
  unfold decideByState
  split
  · exact ⟨by simp [SecState.inEpisodeOnly], by simp [hx.2]⟩
  · cases h : x.state with
    | out => exact hx
    | bypassed => exact calm_decideBypassed v hx
    | armed => exact calm_decideArmed k hstart _ hx
    | releasing => exact calm_decideReleasing k _ _ hx
    | fault => exact calm_decideFault k _ _ _ hx
    | watching | injecting | returningSlewing | returningClosing =>
      simp [Section.calm, SecState.inEpisodeOnly, h] at hx

/-- A frame without a sag start keeps a section calm (R83, R84). -/
theorem calm_sectionFrame (k : Fin 4) {v : SectionView} (hstart : v.sagStart = false) {x : Section}
    (hx : x.calm) : (sectionFrame k v x).sec.calm := by
  obtain ⟨hstate, hservice⟩ := hx
  refine calm_decideByState k hstart _ ?_
  split <;> simp [Section.calm, Section.endConfirm, hstate, hservice]

/-! ### The detector in a frame -/

/-- Outside SAG and ENDING a frame without a sag start stays outside them (R47). -/
theorem inSag_qualify {slowQualify fastQualify : Nat} {d : Detector}
    (hstart : (qualify slowQualify fastQualify d).sagStart = false) :
    (qualify slowQualify fastQualify d).inSag = false := by
  unfold qualify at hstart ⊢
  dsimp only at hstart ⊢
  (repeat' split at hstart) <;> simp_all [Detector.inSag]

/-- A detector outside SAG and ENDING stays outside unless a sag starts (R41 to R49). -/
theorem inSag_detect {prev : Previous} {kind : StepKind} {gap : Nat} {s : State} {d : Detector}
    (hd : d.inSag = false) (hstart : (detect prev kind gap s d).sagStart = false) :
    (detect prev kind gap s d).inSag = false := by
  have hstate : d.state = .clear ∨ d.state = .suspect := by
    revert hd
    cases h : d.state <;> simp [Detector.inSag, h]
  unfold detect at hstart ⊢
  simp only [Detector.inSag, jump_leaves] at hstart ⊢
  split at hstart
  · rename_i levels hlevels
    rcases hstate with h | h <;> simp only [judge, suspend_leaves, elapse_leaves, h] at hstart ⊢ <;>
      exact inSag_qualify hstart
  · simpa [Detector.inSag] using hd

/-- The same of the detector's work in the engine, which is none while it is not configured (R41). -/
theorem inSag_detectorWork {prev : Previous} {c : StepClass} {s : State}
    (h : s.detector.inSag = false)
    (hstart : (s.configured && (detectorWork prev c s).detector.sagStart) = false) :
    (detectorWork prev c s).detector.inSag = false := by
  unfold detectorWork at hstart ⊢
  cases hconf : s.configured with
  | false => rwa [if_neg Bool.false_ne_true]
  | true =>
    simp only [hconf, if_true, Bool.true_and] at hstart ⊢
    exact inSag_detect h hstart

end Sys2Proof.Machine
end

section
/-! PROOFS. What a request or a silence expiry can do to an episode, as one inversion, and the laws that
follow: consecutive records, one OPEN record in an episode, quiet outside one (R94, R107, R147, R148). -/

namespace Sys2Proof.Machine

/-! ### Everything that a request or an expiry can do to an episode -/

/-- An update of the OPEN record that keeps its number, and leaves it OPEN, or closes it. -/
def keepsRecord (stays : Bool) (g : Record → Record) : Prop :=
  ∀ r, (g r).seq = r.seq ∧ (r.isOpen = true → (g r).isOpen = stays)

/-- What a request, or an expiry, can do to records, detector and section controller: nothing; move sections
and hand outcomes; remove a CLOSED oldest record; or end the episode. -/
inductive EpisodeMove (s t : State) : Prop where
  | stands (hrecords : t.records = s.records) (hdetector : t.detector = s.detector)
      (hcontroller : t.controller = s.controller)
  | moved (g : Record → Record) (hg : keepsRecord true g)
      (hrecords : t.records = s.records.withOpen g)
      (hepisode : t.controller.episode = s.controller.episode)
      (hdetector : s.detector.inSag = false → t.detector.inSag = false)
      (hcalm : ∀ k, (s.sec k).calm → (t.sec k).calm)
  | discarded (r : Record) (newer : List Record) (hlist : s.records.list = r :: newer)
      (hclosed : r.isOpen = false) (hrecords : t.records = { s.records with list := newer })
      (hdetector : t.detector = s.detector) (hcontroller : t.controller = s.controller)
  | ended (g : Record → Record) (hg : keepsRecord false g)
      (hrecords : t.records = s.records.withOpen g)
      (hepisode : t.controller.episode = false) (hdetector : t.detector.inSag = false)
      (hcalm : ∀ k, (t.sec k).state.inEpisodeOnly = false ∧
        (s.controller.episode = true ∨ (s.sec k).service = .full → (t.sec k).service = .full))

/-- Every such move keeps at most 32 consecutive records (R147). -/
theorem recordsLawful_of_move {s t : State} (h : EpisodeMove s t) (hs : recordsLawful s = true) :
    recordsLawful t = true := by
  have hupdated : ∀ (stays : Bool) (g : Record → Record), keepsRecord stays g →
      t.records = s.records.withOpen g → recordsLawful t = true := by
    intro stays g hg hrecords
    simp only [recordsLawful, hrecords, Records.withOpen_items, updateOpen_length,
      consecutive_congr (map_seq_updateOpen (fun r => (hg r).1) _)]
    exact hs
  cases h with
  | stands hrecords => rwa [recordsLawful, hrecords]
  | moved g hg hrecords => exact hupdated true g hg hrecords
  | ended g hg hrecords => exact hupdated false g hg hrecords
  | discarded r newer hlist hclosed hrecords =>
    rw [recordsLawful, hlist, Bool.and_eq_true, decide_eq_true_eq] at hs
    rw [recordsLawful, hrecords, Bool.and_eq_true, decide_eq_true_eq]
    exact ⟨Nat.le_trans (Nat.le_succ _) hs.1, consecutive_tail hs.2⟩

/-- Every such move keeps one OPEN record, the newest, exactly in an episode (R148). -/
theorem openOnlyNewest_of_move {s t : State} (h : EpisodeMove s t)
    (hs : openOnlyNewest s.records.list s.controller.episode) :
    openOnlyNewest t.records.list t.controller.episode := by
  cases h with
  | stands hrecords _ hcontroller => rwa [hrecords, hcontroller]
  | moved g hg hrecords hepisode =>
    rw [hrecords, hepisode]
    simpa using openOnlyNewest_updateOpen (fun r => (hg r).2) hs
  | discarded r newer hlist hclosed hrecords _ hcontroller =>
    rw [hrecords, hcontroller]
    rw [hlist] at hs
    exact openOnlyNewest_of_cons hclosed hs
  | ended g hg hrecords hepisode =>
    rw [hrecords, hepisode]
    simpa using openOnlyNewest_updateOpen (fun r => (hg r).2) hs

/-- Every such move keeps the engine quiet outside an episode (R94, R107). -/
theorem calmOutside_of_move {s t : State} (h : EpisodeMove s t) (hs : calmOutside s) :
    calmOutside t := by
  cases h with
  | stands _ hdetector hcontroller | discarded _ _ _ _ _ hdetector hcontroller =>
    simpa only [calmOutside, State.sec, hdetector, hcontroller] using hs
  | moved _ _ _ hepisode hdetector hcalm =>
    intro hdown
    obtain ⟨hsag, hsecs⟩ := hs (hepisode ▸ hdown)
    exact ⟨hdetector hsag, fun k => hcalm k (hsecs k)⟩
  | ended _ _ _ _ hdetector hcalm =>
    refine fun _ => ⟨hdetector, fun k => ⟨(hcalm k).1, (hcalm k).2 ?_⟩⟩
    cases hup : s.controller.episode with
    | true => exact .inl rfl
    | false => exact .inr ((hs hup).2 k).2

/-- A move that leaves the record list and the episode signal: `moved` without outcomes. -/
theorem EpisodeMove.of_sections {s t : State} (hrecords : t.records = s.records)
    (hepisode : t.controller.episode = s.controller.episode)
    (hdetector : s.detector.inSag = false → t.detector.inSag = false)
    (hcalm : ∀ k, (s.sec k).calm → (t.sec k).calm) : EpisodeMove s t :=
  .moved id (fun _ => ⟨rfl, id⟩) (by rw [hrecords, Records.withOpen_id]) hepisode hdetector hcalm

/-! ### Requests -/

/-- An effect that is such a move. -/
def Effect.episodeMoves (effect : Effect) : Prop := ∀ s : State, EpisodeMove s (effect s).1

theorem onSection_episodeMoves {effect : Fin 4 → Effect} (arg : Word)
    (h : ∀ k, (effect k).episodeMoves) : (onSection arg effect).episodeMoves := by
  intro s
  unfold onSection
  split
  · exact h _ s
  · exact .stands rfl rfl rfl

theorem onTable_episodeMoves {effect : TableId → Effect} (arg : Word)
    (h : ∀ t, (effect t).episodeMoves) : (onTable arg effect).episodeMoves := by
  intro s
  unfold onTable
  split
  · exact h _ s
  · exact .stands rfl rfl rfl

/-- DISCARD_RECORD removes the oldest record, when it is CLOSED (R156). -/
theorem discardRecordEffect_episodeMoves (seq : Word) : (discardRecordEffect seq).episodeMoves := by
  intro s
  unfold discardRecordEffect
  split
  · exact .stands rfl rfl rfl
  · rename_i r newer hlist
    (repeat' split)
    · exact .stands rfl rfl rfl
    · exact .stands rfl rfl rfl
    · rename_i hclosed
      exact .discarded r newer hlist (Bool.eq_false_iff.2 hclosed) rfl rfl rfl

/-- RUN moves no section (R79). -/
theorem runEffect_episodeMoves : runEffect.episodeMoves := by
  intro s
  unfold runEffect
  split
  · exact .of_sections rfl rfl id fun _ => id
  · exact .stands rfl rfl rfl

/-- Outcomes handed to a record keep its number and leave it OPEN. -/
theorem keepsRecord_handedAll (os : Four (List EntryOutcome)) :
    keepsRecord true (Record.handedAll os) := by
  intro r
  rw [Record.handedAll_eq]
  exact ⟨rfl, id⟩

/-- So do those handed for one section. -/
theorem keepsRecord_handed (k : Fin 4) (os : List EntryOutcome) :
    keepsRecord true fun r => os.foldl (fun r o => r.handed k o) r := by
  intro r
  dsimp only
  rw [foldl_handed_eq]
  exact ⟨rfl, id⟩

/-- HALT moves sections out of the episode and hands their outcomes (R80, R108). -/
theorem haltEffect_episodeMoves : haltEffect.episodeMoves := by
  intro s
  refine .moved _ (keepsRecord_handedAll ((Four.build fun k =>
    haltSection k (s.controller.sections.get k)).map Moved.outcomes)) ?_ ?_ (fun h => ?_) fun k h => ?_
  · simp only [haltEffect, placeMoves, handAll_eq, records_updateOpenRecord, placeSections_leaves]
  · simp [haltEffect, placeMoves]
  · simpa [haltEffect, placeMoves] using h
  · have hsec : ((haltEffect s).1.sec k) = (haltSection k (s.sec k)).sec := by
      simp [haltEffect, placeMoves, State.sec, sections_placeSections]
    rw [hsec]
    obtain ⟨hstate, hservice⟩ := haltSection_leaves k (s.sec k)
    exact ⟨hstate, hservice.trans h.2⟩

/-- One section replaced by a calm one keeps a calm engine calm. -/
theorem calm_withSection {s : State} {k : Fin 4} {x : Section} (hx : (s.sec k).calm → x.calm)
    (j : Fin 4) (h : (s.sec j).calm) : ((s.withSection k x).sec j).calm := by
  rw [State.sec, sections_withSection, Four.get_set]
  split
  · rename_i heq
    exact hx (heq ▸ h)
  · exact h

/-- ARM_SECTION marks a BYPASSED section (R101). -/
theorem armSectionEffect_episodeMoves (k : Fin 4) : (armSectionEffect k).episodeMoves := by
  intro s
  unfold armSectionEffect
  dsimp only
  split
  · exact .of_sections rfl rfl id (calm_withSection id)
  · exact .stands rfl rfl rfl

/-- DISARM_SECTION moves one section and hands its outcome (R103, R108). -/
theorem disarmSectionEffect_episodeMoves (k : Fin 4) : (disarmSectionEffect k).episodeMoves := by
  intro s
  unfold disarmSectionEffect
  split
  · rename_i m hm
    have hrecords : ((s.withSection k m.sec).raiseAll m.alerts).records = s.records := by simp
    refine .moved _ (keepsRecord_handed k m.outcomes) (congrArg (Records.withOpen _) hrecords)
      (by simp) (by simp) fun j h => ?_
    have hsec : (handOutcomes k m.outcomes ((s.withSection k m.sec).raiseAll m.alerts)).sec j =
        (s.withSection k m.sec).sec j := by simp [State.sec]
    exact hsec ▸ calm_withSection (calm_disarmed hm) j h
  · exact .stands rfl rfl rfl

/-- CLEAR_FAULT sends a FAULT section to BYPASSED (R104). -/
theorem clearFaultEffect_episodeMoves (k : Fin 4) : (clearFaultEffect k).episodeMoves := by
  intro s
  unfold clearFaultEffect
  dsimp only
  split
  · exact .of_sections rfl rfl id (calm_withSection fun h => ⟨rfl, h.2⟩)
  · exact .stands rfl rfl rfl

/-- COMMIT_TABLE applies a table, waits PENDING or refuses (R161 to R163). -/
theorem commitTableEffect_episodeMoves (table : Word) : (commitTableEffect table).episodeMoves := by
  have happly : ∀ (t : TableId) (n : Nat), (judgeImage t n).episodeMoves := by
    intro t n s
    unfold judgeImage placeImage
    dsimp only
    (repeat' split)
    · exact .stands rfl rfl rfl
    · exact .stands rfl rfl rfl
    · exact .stands rfl rfl rfl
    · exact .of_sections (by simp) (by simp) (inSag_applyTable t _ (s := closeLoad s))
        (calm_applyTable t _ (s := closeLoad s))
  intro s
  unfold commitTableEffect
  (repeat' split)
  case h_1.isFalse.isFalse.isFalse => exact happly _ _ s
  all_goals exact .stands rfl rfl rfl

/-- RESTART closes the record and ends the episode (R81, R107, R154, R178). -/
theorem restartEffect_episodeMoves : restartEffect.episodeMoves := by
  intro s
  refine .ended (Record.closed .restart s.frameNumber) (fun _ => ⟨rfl, fun _ => rfl⟩) rfl
    (controller_restarted s.controller).2 rfl fun k => ?_
  have hsec : (restartEffect s).1.sec k = { (s.sec k).restarted with
      service := if s.controller.episode then .full else (s.sec k).service } :=
    get_sections_restarted s.controller k
  rw [hsec]
  refine ⟨(restarted_leaves (s.sec k)).1, fun h => ?_⟩
  rcases h with h | h <;> simp [h]

/-- Every request is such a move; those of the loader, the alerts and the reads leave the episode alone. -/
theorem episodeMoves_of_isRequestEffect {effect : Effect} (he : IsRequestEffect effect) :
    effect.episodeMoves := by
  have hstands : ∀ effect : Effect, (∀ s, (effect s).1.records = s.records ∧
      (effect s).1.detector = s.detector ∧ (effect s).1.controller = s.controller) →
      effect.episodeMoves := fun effect h s => .stands (h s).1 (h s).2.1 (h s).2.2
  cases he with
  | discardRecord seq => exact discardRecordEffect_episodeMoves seq
  | run => exact runEffect_episodeMoves
  | halt => exact haltEffect_episodeMoves
  | restart => exact restartEffect_episodeMoves
  | armSection arg => exact onSection_episodeMoves arg armSectionEffect_episodeMoves
  | disarmSection arg => exact onSection_episodeMoves arg disarmSectionEffect_episodeMoves
  | clearFault arg => exact onSection_episodeMoves arg clearFaultEffect_episodeMoves
  | commitTable table => exact commitTableEffect_episodeMoves table
  | unknown | readIdent | readStatus | clearLoadFlags => exact fun _ => .stands rfl rfl rfl
  | readSection arg => exact onSection_episodeMoves arg fun _ _ => .stands rfl rfl rfl
  | readTable arg =>
    refine onTable_episodeMoves arg fun t => hstands _ fun s => ?_
    unfold readTableEffect
    (repeat' split) <;> exact ⟨rfl, rfl, rfl⟩
  | fetchRecord =>
    refine hstands _ fun s => ?_
    unfold fetchRecordEffect
    split <;> exact ⟨rfl, rfl, rfl⟩
  | beginLoad arg =>
    refine onTable_episodeMoves arg fun t => hstands _ fun s => ?_
    unfold beginLoadEffect
    (repeat' split) <;> exact ⟨rfl, rfl, rfl⟩
  | loadWords =>
    refine hstands _ fun s => ?_
    unfold loadWordsEffect
    (repeat' split) <;> exact ⟨rfl, rfl, rfl⟩
  | dropLoad =>
    refine hstands _ fun s => ?_
    unfold dropLoadEffect
    split <;> exact ⟨rfl, rfl, rfl⟩
  | lockTable arg =>
    refine onTable_episodeMoves arg fun t => hstands _ fun s => ?_
    unfold lockTableEffect
    split <;> exact ⟨rfl, rfl, rfl⟩
  | unlockTable arg =>
    refine onTable_episodeMoves arg fun t => hstands _ fun s => ?_
    unfold unlockTableEffect
    split <;> exact ⟨rfl, rfl, rfl⟩
  | setAlertMask marks =>
    refine hstands _ fun s => ?_
    unfold setAlertMaskEffect
    split <;> exact ⟨rfl, rfl, rfl⟩
  | clearAlerts marks =>
    refine hstands _ fun s => ?_
    unfold clearAlertsEffect
    split <;> exact ⟨rfl, rfl, rfl⟩

/-- A MANAGE frame is such a move, of the engine with the request in its slot. -/
theorem serve_episodeMove (r : Request) (s : State) :
    EpisodeMove s (serve r (effectOf r) s) := by
  rcases serve_cases r (effectOf r) s with h | h | ⟨-, h⟩ <;> rw [h]
  · exact .stands rfl rfl rfl
  · exact .stands rfl rfl rfl
  · have hmove := episodeMoves_of_isRequestEffect (effectOf_isRequestEffect r) (s.slotted r)
    rw [acceptRequest_of_effect rfl]
    cases hmove with
    | stands hrecords hdetector hcontroller => exact .stands hrecords hdetector hcontroller
    | moved g hg hrecords hepisode hdetector hcalm =>
      exact .moved g hg hrecords hepisode hdetector hcalm
    | discarded q newer hlist hclosed hrecords hdetector hcontroller =>
      exact .discarded q newer hlist hclosed hrecords hdetector hcontroller
    | ended g hg hrecords hepisode hdetector hcalm =>
      exact .ended g hg hrecords hepisode hdetector hcalm

/-! ### The silence expiry (R7, R8) -/

/-- The record at an expiry in RUNNING: the outcomes of the sections it moves, then its end (R108, R154). -/
theorem records_blocksSilenced_eq (s : State) : (blocksSilenced s).records =
    s.records.withOpen fun r =>
      (r.handedAll (silenceOutcomes s.controller.sections)).closed .linkSilent s.link.counter := by
  have hlink : ∀ g : Record → Record,
      (State.updateOpenRecord g (trackerSilenced (linkSilenced s))).link.counter = s.link.counter := by
    intro g
    simp
  simp only [blocksSilenced, handAll_eq, closeRecord, records_updateOpenRecord, State.frameNumber,
    records_raise, records_withSections, trackerSilenced_leaves, linkSilenced_leaves, hlink]
  exact Records.withOpen_withOpen (fun r => (keepsRecord_handedAll _ r).2) s.records

/-- Once the signal is down no section is in an episode; every service level is FULL when the signal has been
up, and stands otherwise (R94, R107). -/
theorem calm_lowerAndApply {s : State} (hsag : s.detector.inSag = false)
    (hsecs : ∀ k, (s.sec k).state.inEpisodeOnly = false) :
    (lowerAndApply s).detector.inSag = false ∧
    ∀ k, ((lowerAndApply s).sec k).state.inEpisodeOnly = false ∧
      (s.controller.episode = true ∨ (s.sec k).service = .full →
        ((lowerAndApply s).sec k).service = .full) := by
  unfold lowerAndApply
  split
  · have hfull : ∀ k, (State.sec { s with controller := s.controller.lowered } k).calm := by
      intro k
      have hsec : State.sec { s with controller := s.controller.lowered } k =
          { s.sec k with service := .full } := Four.get_map _ _ k
      rw [hsec]
      exact ⟨hsecs k, rfl⟩
    obtain ⟨hnoSag, hcalm⟩ :=
      calm_deferredApply (s := { s with controller := s.controller.lowered }) hsag hfull
    exact ⟨hnoSag, fun k => ⟨(hcalm k).1, fun _ => (hcalm k).2⟩⟩
  · rename_i hdown
    exact ⟨hsag, fun k => ⟨hsecs k, fun h => h.resolve_left hdown⟩⟩

/-- An expiry in RUNNING closes the record and ends the episode (R57, R100, R107, R154). -/
theorem expiryRunning_episodeMove (s : State) : EpisodeMove s (expiryRunning s) := by
  obtain ⟨-, -, hdetector, hcontroller, -, hrecords⟩ := expiryRunning_blocks s
  obtain ⟨-, -, hsilenced, hsections, -⟩ := blocksSilenced_blocks s
  have hsec : ∀ k, (blocksSilenced s).sec k = (s.sec k).silenced := fun k => by
    rw [State.sec, hsections, Four.get_map, State.sec]
  have hepisode : (blocksSilenced s).controller.episode = s.controller.episode := by simp
  have hkept : (lowerAndApply (blocksSilenced s)).records = (blocksSilenced s).records := by simp
  obtain ⟨hnoSag, hcalm⟩ := calm_lowerAndApply (s := blocksSilenced s) (by rw [hsilenced]; rfl)
    fun k => hsec k ▸ (silenced_leaves (s.sec k)).1
  refine .ended _ (fun r => ?record) (hrecords.trans (hkept.trans (records_blocksSilenced_eq s)))
    (by rw [hcontroller, episode_lowerAndApply]) (hdetector ▸ hnoSag) fun k => ?sections
  case record =>
    rw [Record.handedAll_eq]
    exact ⟨rfl, fun _ => rfl⟩
  case sections =>
    rw [State.sec, hcontroller, ← hepisode, ← (silenced_leaves (s.sec k)).2, ← hsec k]
    exact hcalm k

/-- A silence expiry is such a move. -/
theorem silenceExpires_episodeMove (s : State) : EpisodeMove s (silenceExpires s) := by
  unfold silenceExpires
  (repeat' split)
  · exact .stands rfl rfl rfl
  · exact .stands rfl rfl rfl
  · exact expiryRunning_episodeMove s
  · exact .stands (by simp) (by simp) (by simp)

end Sys2Proof.Machine
end

section
/-! PROOFS. An accepted frame keeps the laws of an episode, and so does every step (R94, R107, R147,
R148). -/

namespace Sys2Proof.Machine

/-! ### The records of a frame -/

/-- The list at the end of a frame: one update of what the sag start, if any, has opened (R149 to R153). -/
theorem records_beforeSlot (s : State) : (beforeSlot s).records =
    (opened (answered s)).withOpen
      (Record.framed (controllerWork s).outcomes (controllerWork s).ended (answered s)) := by
  rw [← records_recordWork, beforeSlot_eq]
  split
  · simp [recorded]
  · rfl

/-- At most 32 records, numbered consecutively up to the next number (R147). -/
def Records.lawful (rs : Records) : Prop :=
  rs.list.length ≤ 32 ∧ consecutive rs.nextSeq rs.list = true

/-- The law of the model says this of the record unit. -/
theorem recordsLawful_iff (s : State) : recordsLawful s = true ↔ s.records.lawful := by
  rw [recordsLawful, Bool.and_eq_true, decide_eq_true_eq]
  rfl

/-- An update of the OPEN record keeps the numbers. -/
theorem Records.lawful_withOpen {g : Record → Record} (hg : ∀ r, (g r).seq = r.seq) {rs : Records}
    (h : rs.lawful) : (rs.withOpen g).lawful := by
  obtain ⟨hlength, hseqs⟩ := h
  simp only [Records.lawful, Records.withOpen_items, updateOpen_length,
    consecutive_congr (map_seq_updateOpen hg _)]
  exact ⟨hlength, hseqs⟩

/-- The record of a sag start takes the next number, in a list with room for it (R147, R149). -/
theorem lawful_opened {s : State} (h : s.records.lawful) : (opened s).lawful := by
  rw [opened_eq]
  split
  · obtain ⟨hlength, hseqs⟩ := h
    have hlist : (superseded s).length ≤ 32 ∧ consecutive s.records.nextSeq (superseded s) = true := by
      rw [superseded, updateOpen_length, consecutive_congr (map_seq_updateOpen ?_ _)]
      · exact ⟨hlength, hseqs⟩
      · exact fun _ => rfl
    have hroom : consecutive s.records.nextSeq (makeRoom (superseded s)) = true := by
      rcases makeRoom_cases (superseded s) with hall | htail
      · rw [hall]
        exact hlist.2
      · rw [htail]
        exact consecutive_tail hlist.2
    refine ⟨?_, consecutive_append hroom ?_⟩
    · rw [List.length_append, List.length_singleton]
      exact Nat.succ_le_succ (length_makeRoom_le hlist.1)
    · simp [newRecord]
  · exact h

/-- The record of a sag start is the one OPEN record, and the newest (R148, R149). -/
theorem openOnlyNewest_opened {s : State} {episode : Bool}
    (h : openOnlyNewest s.records.list episode) :
    openOnlyNewest (opened s).list (episode || s.sagStarts) := by
  rw [opened_eq]
  cases hstarts : s.sagStarts with
  | false => simpa using h
  | true =>
    have hclosed : openOnlyNewest (superseded s) (episode && false) :=
      openOnlyNewest_updateOpen (fun _ _ => rfl) h
    rw [Bool.and_false, openOnlyNewest_false] at hclosed
    rw [if_pos rfl, Bool.or_true]
    refine (openOnlyNewest_append _ _ _).2 ⟨fun r hr => hclosed r ?_, rfl⟩
    rcases makeRoom_cases (superseded s) with hall | htail
    · rwa [hall] at hr
    · rw [htail] at hr
      exact List.mem_of_mem_tail hr

/-! ### The episode signal and the sections of a frame -/

/-- The signal at the end of a frame: raised by a sag start, lowered when the episode ends (R107). -/
theorem episode_beforeSlot (s : State) : (beforeSlot s).controller.episode =
    ((s.controller.episode || s.sagStarts) && !(controllerWork s).ended) := by
  have hkept : (beforeSlot s).controller.episode = (controllerWork s).state.controller.episode := by
    obtain ⟨-, -, -, hcontroller⟩ := recorded_leaves s
    rw [beforeSlot_eq, ← hcontroller]
    split <;> simp
  rw [hkept]
  cases hended : (controllerWork s).ended with
  | false => rw [episode_controllerWork hended, Bool.not_false, Bool.and_true]
  | true =>
    simp only [controllerWork] at hended ⊢
    rw [hended, Bool.not_true, Bool.and_false]
    rfl

/-- Section k's move in a frame that has been judged (R83). -/
def moveOf (s : State) (k : Fin 4) : Moved :=
  sectionFrame k (sectionView (raiseEpisode s) k) (s.sec k)

/-- The controller's moves are the sections' frames. -/
theorem get_sectionFrames (s : State) (k : Fin 4) :
    (sectionFrames (raiseEpisode s)).get k = moveOf s k := by
  have hsections : (raiseEpisode s).controller.sections = s.controller.sections := by simp
  rw [sectionFrames, Four.get_build, hsections]
  rfl

/-- A section after the controller's work: its move, at FULL service when the episode has ended (R107). -/
theorem sec_controllerWork (s : State) (k : Fin 4) : (controllerWork s).state.sec k =
    { (moveOf s k).sec with
      service := if (controllerWork s).ended then .full else (moveOf s k).sec.service } := by
  have hplaced : (placeSections (sectionFrames (raiseEpisode s)) (raiseEpisode s)).controller.sections.get
      k = (moveOf s k).sec := by
    rw [sections_placeSections, Four.get_map, get_sectionFrames]
  rw [← hplaced]
  unfold controllerWork
  dsimp only
  split
  · exact Four.get_map _ _ k
  · rfl

/-- No section holds the episode. -/
theorem holdsEpisode_of_noneHolds {secs : Four Section} (h : noneHolds secs = true) (k : Fin 4) :
    (secs.get k).state.holdsEpisode = false := by
  simp only [noneHolds, Bool.not_eq_true', Bool.or_eq_false_iff] at h
  obtain ⟨⟨⟨h0, h1⟩, h2⟩, h3⟩ := h
  match k with
  | 0 => exact h0
  | 1 => exact h1
  | 2 => exact h2
  | 3 => exact h3

/-- The states that only an episode has hold it. -/
theorem inEpisodeOnly_of_holdsEpisode {st : SecState} (h : st.holdsEpisode = false) :
    st.inEpisodeOnly = false := by
  revert h
  cases st <;> simp [SecState.holdsEpisode, SecState.inEpisodeOnly]

/-- An episode ends with the detector CLEAR and no section in it (R107). -/
theorem calm_of_ended {s : State} (h : (controllerWork s).ended = true) :
    s.detector.inSag = false ∧ ∀ k, ((controllerWork s).state.sec k).calm := by
  have hends := h
  simp only [controllerWork, episodeEnds, Bool.and_eq_true, beq_iff_eq] at hends
  obtain ⟨⟨-, hclear⟩, hholds⟩ := hends
  refine ⟨?_, fun k => ?_⟩
  · have hstate : s.detector.state = .clear := by simpa using hclear
    simp [Detector.inSag, hstate]
  · have hmove := holdsEpisode_of_noneHolds hholds k
    rw [sections_placeSections, Four.get_map, get_sectionFrames] at hmove
    rw [sec_controllerWork, h, if_pos rfl]
    exact ⟨inEpisodeOnly_of_holdsEpisode hmove, rfl⟩

/-- A frame without a sag start keeps calm sections calm (R84). -/
theorem calm_controllerWork {s : State} (hstart : s.sagStarts = false) {k : Fin 4}
    (h : (s.sec k).calm) : ((controllerWork s).state.sec k).calm := by
  have hview : (sectionView (raiseEpisode s) k).sagStart = false := hstart
  obtain ⟨hstate, hservice⟩ := calm_sectionFrame k hview h
  rw [sec_controllerWork]
  refine ⟨hstate, ?_⟩
  split
  · rfl
  · exact hservice

/-- The answer to a judged frame keeps the engine quiet outside an episode. -/
theorem calmOutside_beforeSlot {s : State}
    (h : s.controller.episode = false → s.sagStarts = false →
      s.detector.inSag = false ∧ ∀ k, (s.sec k).calm) : calmOutside (beforeSlot s) := by
  intro hdown
  obtain ⟨-, hdetector, -, hcontroller⟩ := recorded_leaves s
  have hsecs : ∀ k, (recorded s).sec k = (controllerWork s).state.sec k := fun k => by
    rw [State.sec, hcontroller, State.sec]
  rw [episode_beforeSlot] at hdown
  rw [beforeSlot_eq]
  cases hended : (controllerWork s).ended with
  | true =>
    obtain ⟨hsag, hcalm⟩ := calm_of_ended hended
    exact calm_deferredApply (hdetector ▸ hsag) fun k => hsecs k ▸ hcalm k
  | false =>
    rw [hended, Bool.not_false, Bool.and_true, Bool.or_eq_false_iff] at hdown
    obtain ⟨hsag, hcalm⟩ := h hdown.1 hdown.2
    rw [if_neg Bool.false_ne_true, hdetector]
    exact ⟨hsag, fun k => hsecs k ▸ calm_controllerWork hdown.2 (hcalm k)⟩

/-- The judgement of a frame leads a quiet detector into a sag by a sag start alone (R47 to R49). -/
theorem inSag_judgeFrame {prev : Previous} {c : StepClass} {s : State} (h : s.detector.inSag = false)
    (hstart : (judgeFrame prev c s).sagStarts = false) :
    (judgeFrame prev c s).detector.inSag = false := by
  have hjudged : (judgeFrame prev c s).detector =
      (detectorWork prev c (storeWork (trackerFirst prev c.gap s))).detector := by
    simp [judgeFrame]
  have hconf : (judgeFrame prev c s).configured =
      (storeWork (trackerFirst prev c.gap s)).configured :=
    (configured_inService_congr (by simp)).1
  rw [State.sagStarts, hconf, hjudged] at hstart
  rw [hjudged]
  exact inSag_detectorWork (by simpa using h) hstart

/-! ### Every step -/

/-- A law of an episode, kept by an accepted frame and by every move of a request or an expiry, is kept by
every step. -/
theorem step_keeps_episode {law : State → Prop} (atReset : law State.reset)
    (move : ∀ {s t : State}, EpisodeMove s t → law s → law t)
    (frame : ∀ (c : StepClass) (f : SampleFrame) (s : State), law s → law (acceptFrame c f s))
    {s t : State} (hs : law s) (h : step s = .next t) : law t :=
  step_keeps (fun s _ _ _ hs => move (s := s) (.stands rfl rfl rfl) hs) atReset
    (fun f s hs => by
      rcases sampleArrives_cases f s with h | ⟨c, -, h⟩ <;> rw [h]
      · exact hs
      · exact frame c f s hs)
    (fun s => move (silenceExpires_episodeMove s)) (fun r s => move (serve_episodeMove r s)) hs h

/-- Settles O55: a frame's record takes the next number in a list with room, and every other work updates
the OPEN record or removes the oldest. -/
theorem recordsStayConsecutive : Obligations.RecordsStayConsecutive := by
  intro s t hs h
  obtain ⟨-, -, hreset, -⟩ := reset_lawful
  refine step_keeps_episode (law := fun s => recordsLawful s = true) hreset recordsLawful_of_move
    (fun c f s hs => ?_) hs h
  have hslot : (acceptFrame c f s).records =
      (beforeSlot (judgeFrame s.previous c (measureFrame c f s))).records := by
    simp [acceptFrame, answerFrame]
  rw [recordsLawful_iff, hslot, records_beforeSlot]
  refine Records.lawful_withOpen (fun r => (r.framed_leaves _ _ _).1) (lawful_opened ?_)
  obtain ⟨-, -, -, -, hrecords, -⟩ := answered_leaves (judgeFrame s.previous c (measureFrame c f s))
  rw [hrecords]
  simpa using (recordsLawful_iff s).1 hs

/-- An accepted frame keeps one OPEN record, the newest, exactly in an episode (R148). -/
theorem openOnlyNewest_acceptFrame (c : StepClass) (f : SampleFrame) {s : State}
    (h : openOnlyNewest s.records.list s.controller.episode) :
    openOnlyNewest (acceptFrame c f s).records.list (acceptFrame c f s).controller.episode := by
  rw [acceptFrame]
  generalize hjudged : judgeFrame s.previous c (measureFrame c f s) = u
  have hkept : u.records = s.records ∧ u.controller = s.controller := by
    rw [← hjudged]
    simp
  obtain ⟨-, -, -, -, hrecords, -, hstarts⟩ := answered_leaves u
  simp only [answerFrame, fillOutSlot_leaves, records_beforeSlot, episode_beforeSlot,
    Records.withOpen_items, hkept.2]
  refine openOnlyNewest_updateOpen (fun r => (r.framed_leaves _ _ _).2) ?_
  rw [← hstarts]
  exact openOnlyNewest_opened (by rwa [hrecords, hkept.1])

/-- An accepted frame keeps the engine quiet outside an episode (R94, R107). -/
theorem calmOutside_acceptFrame (c : StepClass) (f : SampleFrame) {s : State} (h : calmOutside s) :
    calmOutside (acceptFrame c f s) := by
  have hslot : calmOutside (beforeSlot (judgeFrame s.previous c (measureFrame c f s))) := by
    refine calmOutside_beforeSlot fun hdown hstart => ?_
    have hcontroller : (judgeFrame s.previous c (measureFrame c f s)).controller = s.controller := by
      simp
    rw [hcontroller] at hdown
    obtain ⟨hsag, hcalm⟩ := h hdown
    exact ⟨inSag_judgeFrame (by simpa using hsag) hstart,
      fun k => by rw [State.sec, hcontroller]; exact hcalm k⟩
  simpa [calmOutside, acceptFrame, answerFrame, State.sec] using hslot

/-- Settles O56: both laws by the same inversion of requests and expiries; in a frame the list follows the
signal, and a section enters the episode at a sag start alone. -/
theorem episodeLawsStay : Obligations.EpisodeLawsStay := by
  intro s t h
  obtain ⟨-, -, -, hopen, -, -, -, hquiet, -⟩ := reset_lawful
  constructor
  · simp only [openExactlyInEpisode_iff] at hopen ⊢
    exact fun hs => step_keeps_episode
      (law := fun s => openOnlyNewest s.records.list s.controller.episode) hopen
      openOnlyNewest_of_move (fun c f _ => openOnlyNewest_acceptFrame c f) hs h
  · simp only [episodeLawful_iff] at hquiet ⊢
    exact fun hs => step_keeps_episode (law := calmOutside) hquiet calmOutside_of_move
      (fun c f _ => calmOutside_acceptFrame c f) hs h

end Sys2Proof.Machine
end

section
/-! PROOFS. The requests on the record list: FETCH_RECORD and DISCARD_RECORD (R155, R156). -/

namespace Sys2Proof.Machine

/-- The answer to a FETCH_RECORD of an empty list (R155). -/
theorem fetchRecordEffect_of_nil {s : State} (h : s.records.list = []) :
    fetchRecordEffect s = (s, Reply.code .notFound) := by
  simp only [fetchRecordEffect, h]

/-- The oldest record is copied into the snapshot (R155). -/
theorem fetchRecordEffect_of_cons {s : State} {r : Record} {newer : List Record}
    (h : s.records.list = r :: newer) : fetchRecordEffect s =
      ({ s with management := { s.management with snapshot := some r } },
        ⟨.ok, [.recordHeader, .recordEntries]⟩) := by
  simp only [fetchRecordEffect, h]

/-- Settles O40: the effect on an empty list, and on one with an oldest record. -/
theorem fetchRecordAnswer : Obligations.FetchRecordAnswer := by
  have haccept : ∀ s : State, slotOpen s = true → exec .fetchRecord s =
      .next (acceptRequest (Request.plain 5 0 0 0) fetchRecordEffect s.begin) := fun s hslot =>
    congrArg Host.Outcome.next (serve_of_slotOpen fetchRecordEffect (plain_data_length _ _ _ _) hslot)
  refine ⟨fun s hslot hempty => (haccept s hslot).trans (congrArg Host.Outcome.next ?empty),
    fun s r newer hslot hlist => (haccept s hslot).trans (congrArg Host.Outcome.next ?oldest)⟩
  case empty =>
    exact (acceptRequest_of_effect (s := s.begin) (fetchRecordEffect_of_nil hempty)).trans rfl
  case oldest =>
    exact (acceptRequest_of_effect (s := s.begin) (fetchRecordEffect_of_cons hlist)).trans rfl

/-- The answer to a DISCARD_RECORD of an empty list (R156). -/
theorem discardRecordEffect_of_nil (seq : Word) {s : State} (h : s.records.list = []) :
    discardRecordEffect seq s = (s, Reply.code .notFound) := by
  simp only [discardRecordEffect, h]

/-- The rows of R156 for a list with an oldest record. -/
theorem discardRecordEffect_of_cons (seq : Word) {s : State} {r : Record} {newer : List Record}
    (h : s.records.list = r :: newer) : discardRecordEffect seq s =
      if r.seq ≠ seq then (s, Reply.code .notFound)
      else if r.isOpen then (s, Reply.code .refusedState)
      else ({ s with records := { s.records with list := newer } }, Reply.code .ok) := by
  simp only [discardRecordEffect, h]

/-- Settles O41: the effect on an empty list, and row by row on one with an oldest record. -/
theorem discardRecordAnswer : Obligations.DiscardRecordAnswer := by
  have haccept : ∀ (seq : Word) (s : State), slotOpen s = true → exec (.discardRecord seq) s =
      .next (acceptRequest (Request.plain 6 seq 0 0) (discardRecordEffect seq) s.begin) :=
    fun seq s hslot => congrArg Host.Outcome.next
      (serve_of_slotOpen (discardRecordEffect seq) (plain_data_length _ _ _ _) hslot)
  refine ⟨fun seq s hslot hempty => (haccept seq s hslot).trans (congrArg Host.Outcome.next ?empty),
    fun seq s r newer hslot hlist => ?oldest⟩
  case empty =>
    exact (acceptRequest_of_effect (s := s.begin) (discardRecordEffect_of_nil seq hempty)).trans rfl
  case oldest =>
    have hrows := discardRecordEffect_of_cons seq
      (s := s.begin.slotted (Request.plain 6 seq 0 0)) hlist
    rw [haccept seq s hslot]
    refine ⟨fun hother => ?_, fun hseq hopen => ?_, fun hseq hclosed => ?_⟩
    · have hrow := hrows.trans (if_pos hother)
      exact congrArg Host.Outcome.next ((acceptRequest_of_effect hrow).trans rfl)
    · have hrow := hrows.trans ((if_neg fun hother => hother hseq).trans (if_pos hopen))
      exact congrArg Host.Outcome.next ((acceptRequest_of_effect hrow).trans rfl)
    · have hrow := hrows.trans ((if_neg fun hother => hother hseq).trans (if_neg (by simp [hclosed])))
      exact congrArg Host.Outcome.next ((acceptRequest_of_effect hrow).trans rfl)

end Sys2Proof.Machine
end

section
/-! PROOFS. What an accepted SAMPLE frame leaves unchanged (R149, R164, R173, R181). -/

namespace Sys2Proof.Machine

/-! ### The operator hold (R103) -/

/-- No frame of a section touches its operator hold. -/
theorem hold_sectionFrame (k : Fin 4) (v : SectionView) (x : Section) :
    (sectionFrame k v x).sec.hold = x.hold := by
  unfold sectionFrame
  dsimp only
  split <;> simp

/-- No table touches an operator hold (R78). -/
theorem hold_retabled (configured inService : Bool) (x : Section) :
    (x.retabled configured inService).hold = x.hold := by
  unfold Section.retabled
  split <;> simp [Section.toOut]

/-- The application of a table leaves every operator hold. -/
theorem hold_applyTable (t : TableId) (image : List Word) (s : State) (k : Fin 4) :
    ((applyTable t image s).sec k).hold = (s.sec k).hold := by
  by_cases ht : t = .sections
  · rw [ht, sec_applyTable_sections, hold_retabled]
  · rw [sec_applyTable_of_ne ht]
    split <;> rfl

/-- A deferred application leaves every operator hold. -/
theorem hold_deferredApply (s : State) (k : Fin 4) :
    ((deferredApply s).sec k).hold = (s.sec k).hold := by
  unfold deferredApply
  split
  · exact hold_applyTable _ _ (closeLoad s) k
  · rfl
  · rfl

/-- The answer to a judged frame leaves every operator hold. -/
theorem hold_beforeSlot (s : State) (k : Fin 4) : ((beforeSlot s).sec k).hold = (s.sec k).hold := by
  obtain ⟨-, -, -, hcontroller⟩ := recorded_leaves s
  have hrecorded : ((recorded s).sec k).hold = (s.sec k).hold := by
    rw [State.sec, hcontroller, ← State.sec, sec_controllerWork]
    exact hold_sectionFrame k _ _
  rw [beforeSlot_eq]
  split
  · rw [hold_deferredApply, hrecorded]
  · exact hrecorded

/-! ### The answer queue (R173, R181) -/

/-- The out slot leaves the answer alone, or sends its first part. -/
theorem fillOutSlot_cases (u : State) :
    ((fillOutSlot u).management.slot = u.management.slot ∧
      (fillOutSlot u).management.queue = u.management.queue ∧
      (fillOutSlot u).management.snapshot = u.management.snapshot) ∨
    ∃ part rest, u.management.queue = part :: rest ∧ fillOutSlot u = sendPart part rest u := by
  unfold fillOutSlot
  split
  · exact .inl (by simp)
  · split
    · rename_i part rest hqueue
      exact .inr ⟨part, rest, hqueue, rfl⟩
    · split <;> exact .inl (by simp)

/-- A part that is sent leaves the queue; slot and snapshot become free with the last one (R155, R173). -/
theorem sendPart_answer (part : AnswerPart) (rest : List AnswerPart) (u : State) :
    (sendPart part rest u).management.queue = rest ∧
    (rest = [] → (sendPart part rest u).management.slot = none ∧
      (sendPart part rest u).management.snapshot = none) ∧
    (rest ≠ [] → (sendPart part rest u).management.slot = u.management.slot ∧
      (sendPart part rest u).management.snapshot = u.management.snapshot) := by
  refine ⟨rfl, fun hlast => ?_, fun hmore => ?_⟩
  · subst hlast
    exact ⟨rfl, rfl⟩
  · cases rest with
    | nil => exact absurd rfl hmore
    | cons => exact ⟨rfl, rfl⟩

/-! ### The record list (R149) -/

/-- A frame keeps every CLOSED record but the oldest, which a sag start may remove. -/
theorem mem_records_beforeSlot {s : State} {r : Record} (hr : r ∈ s.records.list.tail)
    (hclosed : r.isOpen = false) : r ∈ (beforeSlot s).records.list := by
  obtain ⟨-, -, -, -, hrecords, -⟩ := answered_leaves s
  rw [records_beforeSlot, (Records.withOpen_items _ _).1, opened_eq, hrecords]
  refine mem_updateOpen_of_closed ?_ hclosed
  split
  · refine List.mem_append_left _ (mem_makeRoom ?_)
    rw [superseded, tail_updateOpen, hrecords]
    exact mem_updateOpen_of_closed hr hclosed
  · exact List.mem_of_mem_tail hr

/-- With no load PENDING the answer to a frame leaves the loader (R164). -/
theorem loader_atSlot_of_noPending (c : StepClass) (f : SampleFrame) {s : State}
    (h : noPending s = true) : (atSlot c f s).loader = s.loader := by
  obtain ⟨-, -, hjudged⟩ := loader_stages c f s
  obtain ⟨-, -, hrecorded, -⟩ := recorded_leaves (judged c f s)
  have hpending : noPending (judged c f s) = true := by rwa [noPending, hjudged]
  rw [atSlot, beforeSlot_of_undeferred (.inl hpending), hrecorded, hjudged]

/-- Settles O10: sections and records through the answer to the frame, the rest by what each block's work
leaves, and the out slot by its two cases. -/
theorem sampleFrameLeaves : Obligations.SampleFrameLeaves := by
  intro c f s hacc
  obtain ⟨-, hqueue, hslot, hsnapshot⟩ := atSlot_leaves c f s
  refine ⟨_, exec_sampleFrame_of_accepted hacc, ?pending, ?resetLine, ?mntLine, ?run, fun k => ?hold,
    ?locks, ?sticky, ?mask, fun hpending => ?loader, ?answer, fun r hr hclosed => ?records⟩
  case pending | resetLine | mntLine | run | locks | sticky | mask =>
    simp [atSlot, judged, measured]
  case hold =>
    have hjudged : (judged c f s).sec k = s.sec k := by simp [judged, measured, State.sec]
    have hkept : (fillOutSlot (atSlot c f s)).sec k = (atSlot c f s).sec k := by simp [State.sec]
    rw [hkept, atSlot, hold_beforeSlot, hjudged]
  case loader => simpa using loader_atSlot_of_noPending c f hpending
  case answer =>
    rw [← hslot, ← hqueue, ← hsnapshot]
    rcases fillOutSlot_cases (atSlot c f s) with hstands | ⟨part, rest, hparts, hsent⟩
    · exact .inl hstands
    · obtain ⟨hrest, hfree, hkept⟩ := sendPart_answer part rest (atSlot c f s)
      rw [hsent, hparts]
      exact .inr ⟨List.cons_ne_nil _ _, hrest, hfree, hkept⟩
  case records =>
    have hkept : (fillOutSlot (atSlot c f s)).records = (beforeSlot (judged c f s)).records := by
      simp [atSlot]
    have hjudged : (judged c f s).records = s.records := by simp [judged, measured]
    rw [hkept]
    exact mem_records_beforeSlot (hjudged ▸ hr) hclosed

end Sys2Proof.Machine
end

section
/-! PROOFS. The outcome that a section's frame hands to the record unit is that of its transition (R108,
R151). -/

namespace Sys2Proof.Machine

/-! ### Moves and transitions (R108) -/

/-- The outcomes of a move come to that of the transition from `x` which it makes. -/
def Moved.handsTransition (sagStart : Bool) (x : Section) (m : Moved) : Prop :=
  ∀ kept, m.outcomes.foldl worse kept = worstAfter kept (frameOutcome sagStart x m.sec)

/-- A transition is known by the state and the service level at its start. -/
theorem frameOutcome_congr {x y : Section} (hstate : y.state = x.state)
    (hservice : y.service = x.service) (sagStart : Bool) (z : Section) :
    frameOutcome sagStart y z = frameOutcome sagStart x z := by
  unfold frameOutcome
  rw [hstate, hservice]

/-- A move without outcome makes a transition without one. -/
theorem quiet_handsTransition {sagStart : Bool} {x y : Section}
    (h : frameOutcome sagStart x y = none) : (Moved.quiet y).handsTransition sagStart x := by
  intro kept
  rw [show (Moved.quiet y).sec = y from rfl, h]
  rfl

/-- A move with one outcome makes the transition of that outcome. -/
theorem one_handsTransition {sagStart : Bool} {x : Section} {m : Moved} {o : EntryOutcome}
    (hone : m.outcomes = [o]) (h : frameOutcome sagStart x m.sec = some o) :
    m.handsTransition sagStart x := by
  intro kept
  rw [hone, h]
  rfl

/-- Entry to FAULT from another state (R105). -/
theorem enterFault_handsTransition (k : Fin 4) (c : Cause) {sagStart : Bool} {x : Section}
    (y : Section) (h : x.state ≠ .fault) : (enterFault k c y).handsTransition sagStart x :=
  one_handsTransition (o := .fault) rfl (by simp [frameOutcome, h])

/-- Entry to INJECTING from another state, with the outcome of the service level (R90 to R92). -/
theorem enterInjecting_handsTransition (k : Fin 4) (order : Band) {sagStart : Bool} {x : Section}
    (y : Section) (h : x.state ≠ .injecting) :
    (enterInjecting k order y).handsTransition sagStart x := by
  unfold enterInjecting
  split <;> exact one_handsTransition rfl (by simp [frameOutcome, h])

/-- A section that a frame finds ARMED, WATCHING, INJECTING or RETURNING. -/
def SecState.serving (st : SecState) : Bool := st == .armed || st.inEpisodeOnly

/-- The outcome with which such a section leaves for BYPASSED or RELEASING, by its cause (R108). -/
def leaveOutcome (sagStart : Bool) : Cause → Option EntryOutcome
  | .store => some .releasedStore
  | .notReady => some .fault
  | .overcurrent => some .overcurrent
  | .request => if sagStart then none else some .releasedRequest
  | _ => none

/-- Such a section leaves with the outcome of its cause. -/
theorem frameOutcome_of_leave {sagStart : Bool} {x y : Section} (hx : x.state.serving = true)
    (hy : y.state = .bypassed ∨ y.state = .releasing) :
    frameOutcome sagStart x y = leaveOutcome sagStart y.lastLeave := by
  unfold frameOutcome leaveOutcome
  rcases hy with hy | hy <;> rw [hy] <;> revert hx <;>
    cases x.state <;> cases y.lastLeave <;> simp [SecState.serving, SecState.inEpisodeOnly]

/-- To BYPASSED with the outcome of the cause. -/
theorem leaveToBypassed_handsTransition (k : Fin 4) {c : Cause} (e : Bool) {o : EntryOutcome}
    {sagStart : Bool} {x : Section} (y : Section) (hx : x.state.serving = true)
    (ho : leaveOutcome sagStart c = some o) :
    (leaveToBypassed k c e o y).handsTransition sagStart x :=
  one_handsTransition rfl ((frameOutcome_of_leave hx (.inl rfl)).trans ho)

/-- To RELEASING with the outcome of the cause. -/
theorem leaveToReleasing_handsTransition (k : Fin 4) {c : Cause} (e : Bool) {o : EntryOutcome}
    {sagStart : Bool} {x : Section} (y : Section) (hx : x.state.serving = true)
    (ho : leaveOutcome sagStart c = some o) :
    (leaveToReleasing k c e o y).handsTransition sagStart x :=
  one_handsTransition rfl ((frameOutcome_of_leave hx (.inr rfl)).trans ho)

/-! ### The decision by state (R84) -/

/-- A BYPASSED section hands nothing (R90, R102, R106). -/
theorem decideBypassed_handsTransition (v : SectionView) {x : Section} (h : x.state = .bypassed) :
    (decideBypassed v x).handsTransition v.sagStart x := by
  unfold decideBypassed atBoundary
  dsimp only
  (repeat' split) <;> exact quiet_handsTransition (by simp [frameOutcome, Section.armedNow, h])

/-- An ARMED section at a sag start (R90). A DISARM then applied hands NOT_ARMED, which ranks lowest. -/
theorem armedAtSagStart_handsTransition (k : Fin 4) (v : SectionView) {x : Section}
    (h : x.state = .armed) : (armedAtSagStart k v x).handsTransition true x := by
  have hserving : x.state.serving = true := by rw [h]; rfl
  unfold armedAtSagStart
  (repeat' split)
  · intro kept
    rw [frameOutcome_of_leave hserving (.inl rfl)]
    exact worse_notArmed kept
  · exact leaveToBypassed_handsTransition k _ x hserving rfl
  · exact enterInjecting_handsTransition k _ _ (by simp [h])
  · exact one_handsTransition rfl (by simp [frameOutcome, h])

/-- An ARMED section. -/
theorem decideArmed_handsTransition (k : Fin 4) (v : SectionView) (turnedOpen : Bool) {x : Section}
    (h : x.state = .armed) : (decideArmed k v turnedOpen x).handsTransition v.sagStart x := by
  have hserving : x.state.serving = true := by rw [h]; rfl
  unfold decideArmed
  (repeat' split)
  · exact leaveToBypassed_handsTransition k _ x hserving rfl
  · exact enterFault_handsTransition k _ x (by simp [h])
  · rename_i hstart
    rw [hstart]
    exact armedAtSagStart_handsTransition k v h
  · rename_i hnone _
    exact leaveToBypassed_handsTransition k _ x hserving (if_neg hnone)
  · exact quiet_handsTransition (by simp [frameOutcome, h])

/-- A WATCHING section (R92, R95). -/
theorem decideWatching_handsTransition (k : Fin 4) (v : SectionView) (turnedOpen : Bool)
    {x : Section} (h : x.state = .watching) :
    (decideWatching k v turnedOpen x).handsTransition v.sagStart x := by
  have hserving : x.state.serving = true := by rw [h]; rfl
  unfold decideWatching
  (repeat' split)
  · exact leaveToBypassed_handsTransition k _ x hserving rfl
  · exact enterFault_handsTransition k _ x (by simp [h])
  · exact quiet_handsTransition (by simp [frameOutcome])
  · exact leaveToBypassed_handsTransition k _ x hserving rfl
  · exact enterInjecting_handsTransition k _ _ (by simp [h])
  · exact quiet_handsTransition (by simp [frameOutcome, h])
  · exact quiet_handsTransition (by simp [frameOutcome, h])

/-- The hazards of a section with its bypass commanded open (R87, R89, R98, R99). -/
theorem openHazard_handsTransition {k : Fin 4} {v : SectionView} {a b : Bool} {x : Section}
    {m : Moved} (hm : openHazard k v a b x = some m) (hserving : x.state.serving = true) :
    m.handsTransition v.sagStart x := by
  have hfault : x.state ≠ .fault := fun h => by
    rw [h] at hserving
    cases hserving
  unfold openHazard at hm
  (repeat' split at hm) <;> cases hm
  · exact enterFault_handsTransition k _ x hfault
  · exact enterFault_handsTransition k _ x hfault
  · exact enterFault_handsTransition k _ x hfault
  · exact leaveToReleasing_handsTransition k _ x hserving rfl

/-- An INJECTING section: hazards, the return at the sag end, and the store orders (R93, R95). -/
theorem decideInjecting_handsTransition (k : Fin 4) (v : SectionView) (a b : Bool) {x : Section}
    (h : x.state = .injecting) : (decideInjecting k v a b x).handsTransition v.sagStart x := by
  have hserving : x.state.serving = true := by rw [h]; rfl
  unfold decideInjecting
  split
  · exact openHazard_handsTransition ‹_› hserving
  · split
    · unfold injectingAtSagEnd
      split <;> exact quiet_handsTransition (by simp [frameOutcome, Section.startClosing])
    · split
      · unfold injectingUnderOrders
        split
        · exact leaveToReleasing_handsTransition k _ x hserving rfl
        · rename_i hfull
          exact one_handsTransition rfl (by simp [frameOutcome, h, hfull])
        · exact quiet_handsTransition (by simp [frameOutcome, h])
      · exact quiet_handsTransition (by simp [frameOutcome, h])

/-- A RETURNING/SLEWING section: hazards, a new sag, and the close (R91, R96). -/
theorem decideSlewing_handsTransition (k : Fin 4) (v : SectionView) (a b : Bool) {x : Section}
    (h : x.state = .returningSlewing) : (decideSlewing k v a b x).handsTransition v.sagStart x := by
  have hserving : x.state.serving = true := by rw [h]; rfl
  unfold decideSlewing slewingAtSagStart
  split
  · exact openHazard_handsTransition ‹_› hserving
  · (repeat' split)
    · exact leaveToReleasing_handsTransition k _ x hserving rfl
    · exact enterInjecting_handsTransition k _ _ (by simp [h])
    · exact quiet_handsTransition (by simp [frameOutcome, Section.startClosing])
    · exact quiet_handsTransition (by simp [frameOutcome, h])

/-- A RETURNING/CLOSING section (R88, R99). -/
theorem decideClosing_handsTransition (k : Fin 4) (v : SectionView) (a b : Bool) {x : Section}
    (h : x.state = .returningClosing) : (decideClosing k v a b x).handsTransition v.sagStart x := by
  have hserving : x.state.serving = true := by rw [h]; rfl
  unfold decideClosing closedToArmed
  dsimp only
  (repeat' split)
  · exact enterFault_handsTransition k _ x (by simp [h])
  · exact enterFault_handsTransition k _ _ (by simp [h])
  · exact leaveToReleasing_handsTransition k _ x hserving rfl
  · exact one_handsTransition rfl (by simp [frameOutcome, h])
  · exact quiet_handsTransition (by simp [frameOutcome])
  · exact quiet_handsTransition (by simp [frameOutcome, h])

/-- A RELEASING section (R88). -/
theorem decideReleasing_handsTransition (k : Fin 4) (sagStart a b : Bool) {x : Section}
    (h : x.state = .releasing) : (decideReleasing k a b x).handsTransition sagStart x := by
  unfold decideReleasing
  (repeat' split)
  · exact enterFault_handsTransition k _ _ (by simp [h])
  · exact quiet_handsTransition (by simp [frameOutcome, h])
  · exact quiet_handsTransition (by simp [frameOutcome, h])

/-- A FAULT section stays in FAULT and hands nothing (R88, log 13). -/
theorem decideFault_handsTransition (k : Fin 4) (sagStart a b c : Bool) {x : Section}
    (h : x.state = .fault) : (decideFault k a b c x).handsTransition sagStart x := by
  have hstays : ∀ y : Section, y.state = .fault → frameOutcome sagStart x y = none := by
    intro y hy
    simp [frameOutcome, hy, h]
  unfold decideFault
  (repeat' split)
  · exact quiet_handsTransition (y := { x with faultCause := some .closeStuck, confirmTimedOut := true })
      (hstays _ h)
  · exact quiet_handsTransition (hstays _ h)
  · exact quiet_handsTransition (hstays _ h)
  · exact quiet_handsTransition (hstays _ h)

/-- The decision of R84 hands the outcome of its transition. -/
theorem decideByState_handsTransition (k : Fin 4) (v : SectionView) (n : ConfirmNews) (x : Section) :
    (decideByState k v n x).handsTransition v.sagStart x := by
  unfold decideByState
  split
  · rename_i hbridge
    simp only [bridgeFaultDue, Bool.and_eq_true, bne_iff_ne] at hbridge
    exact enterFault_handsTransition k _ x hbridge.2
  · cases h : x.state with
    | out => exact quiet_handsTransition (by simp [frameOutcome, h])
    | bypassed => exact decideBypassed_handsTransition v h
    | armed => exact decideArmed_handsTransition k v _ h
    | watching => exact decideWatching_handsTransition k v _ h
    | injecting => exact decideInjecting_handsTransition k v _ _ h
    | returningSlewing => exact decideSlewing_handsTransition k v _ _ h
    | returningClosing => exact decideClosing_handsTransition k v _ _ h
    | releasing => exact decideReleasing_handsTransition k _ _ _ h
    | fault => exact decideFault_handsTransition k _ _ _ _ h

/-- A section's frame hands the outcome of its transition; NOT_ARMED at a sag start ranks lowest (R108,
R151). -/
theorem sectionFrame_handsTransition (k : Fin 4) (v : SectionView) (x : Section) :
    (sectionFrame k v x).handsTransition v.sagStart x := by
  intro kept
  have hfirst : (notArmedOutcome v x).foldl worse kept = kept := by
    unfold notArmedOutcome
    split
    · exact worse_notArmed kept
    · rfl
  unfold sectionFrame
  dsimp only
  rw [List.foldl_append, hfirst, decideByState_handsTransition]
  refine congrArg (worstAfter kept) (frameOutcome_congr ?_ ?_ _ _) <;> split <;>
    simp [Section.endConfirm]

end Sys2Proof.Machine
end

section
/-! PROOFS. The record of a sag-start frame: what it supersedes, the room it is given, and each of its
fields and entries at the end of the frame (R147 to R153). -/

namespace Sys2Proof.Machine

/-! ### The detector in a sag-start frame -/

/-- A sag starts in CLEAR or SUSPECT, with valid levels, by a counter that qualifies (R47, R48). -/
theorem trigger_of_sagStart {c : StepClass} {f : SampleFrame} {s : State}
    (hconf : s.configured = true) (hstart : (judged c f s).detector.sagStart = true) :
    (s.detector.state = .clear ∨ s.detector.state = .suspect) ∧
    ∃ levels trigger, levelsOf c f s = some levels ∧
      triggerOf (slowQualified levels s) (fastQualified c f s) = some trigger := by
  obtain ⟨-, hnever, -⟩ := times_judged (c := c) (f := f) hconf
  obtain ⟨-, -, -, -, -, -, hnone, -⟩ := timedOf_leaves c f s
  have hstate : s.detector.state = .clear ∨ s.detector.state = .suspect := by
    cases h : s.detector.state with
    | clear => exact .inl rfl
    | suspect => exact .inr rfl
    | sag => simp [hnever (.inl h)] at hstart
    | ending => simp [hnever (.inr h)] at hstart
  refine ⟨hstate, ?_⟩
  cases hlevels : levelsOf c f s with
  | none =>
    rw [detector_judged_of_noLevels hconf hlevels] at hstart
    simp [hnone] at hstart
  | some levels =>
    refine ⟨levels, ?_⟩
    rw [detector_judged hconf hlevels, judge_of_watching levels hstate] at hstart
    simp only [jump_leaves] at hstart
    obtain ⟨p, hp⟩ := (qualify_sagStart (by simpa using hnone)).1 hstart
    cases htrigger : triggerOf (slowQualified levels s) (fastQualified c f s) with
    | some trigger => exact ⟨trigger, rfl, rfl⟩
    | none =>
      obtain ⟨hslow, hfast⟩ := (triggerOf_eq_none _ _).1 htrigger p
      simp only [slowQualified, fastQualified, Phases.get_build, decide_eq_false_iff_not] at hslow hfast
      simp only [Phases.get_build] at hp
      exact (hp.elim hslow hfast).elim

/-- No sag ends in a sag-start frame (R47). -/
theorem sagEnd_of_sagStart {c : StepClass} {f : SampleFrame} {s : State}
    (hconf : s.configured = true) (hstart : (judged c f s).detector.sagStart = true) :
    (judged c f s).detector.sagEnd = false := by
  obtain ⟨hstate, levels, -, hlevels, -⟩ := trigger_of_sagStart hconf hstart
  obtain ⟨-, -, -, -, -, -, -, hnone⟩ := timedOf_leaves c f s
  rw [detector_judged hconf hlevels, judge_of_watching levels hstate]
  simpa using hnone

/-! ### The new record at the end of the frame (R149 to R152) -/

/-- The items of a frame that the record unit reads are those at the frame's end, when no table is applied. -/
theorem recorded_eq_answered (u : State) :
    (fillOutSlot (recorded u)).link = (answered u).link ∧
    (fillOutSlot (recorded u)).levels = (answered u).levels ∧
    (fillOutSlot (recorded u)).store = (answered u).store ∧
    (fillOutSlot (recorded u)).detector = (answered u).detector ∧
    (fillOutSlot (recorded u)).controller = (answered u).controller ∧
    (fillOutSlot (recorded u)).injection = (answered u).injection := by
  simp [recorded, State.levels]

/-- The list of a sag-start frame: what has been made room in, and the new record as the frame leaves it. -/
theorem list_recorded_of_sagStart {u : State} (h : u.sagStarts = true) :
    (recorded u).records.list = makeRoom (superseded (answered u)) ++
      [Record.framed (controllerWork u).outcomes (controllerWork u).ended (answered u)
        (newRecord (answered u))] := by
  obtain ⟨-, -, -, -, -, -, hstarts⟩ := answered_leaves u
  rw [recorded, records_recordWork, opened_eq, hstarts, h, if_pos rfl, (Records.withOpen_items _ _).1,
    updateOpen_append_of_open _ _ rfl]
  rfl

/-- What supersedes the OPEN record, written out (R153). -/
theorem superseded_eq (u : State) : superseded u =
    match openRecord u.records.list with
    | some r => u.records.list.dropLast ++ [r.closed .superseded u.frameNumber]
    | none => u.records.list := by
  unfold superseded
  split
  · rename_i r hopen
    obtain ⟨hlast, hr⟩ := openRecord_eq_some.1 hopen
    rcases records_cases u.records.list with hnil | ⟨qs, q, hlist⟩
    · rw [hnil] at hlast
      cases hlast
    · rw [hlist, List.getLast?_concat] at hlast
      cases hlast
      rw [hlist, updateOpen_append_of_open _ _ hr, List.dropLast_concat]
  · rename_i hnone
    exact updateOpen_of_none hnone

/-- The entry of section k in a record that is new in a frame (R149, R151, R152). -/
def openingEntry (outcomes : List EntryOutcome) (u : State) (k : Fin 4) : Entry :=
  { sec := k
    worst := outcomes.foldl worse .notArmed
    firstOffset := if (u.sec k).state = .injecting then some u.detector.elapsed else none
    minLoad := enterLevel (enterLevel (enterLevel none (u.levels.load.get k).a) (u.levels.load.get k).b)
      (u.levels.load.get k).c
    energy := addEnergy 0 (u.injection.get k).energy }

/-- The new record at the end of a frame in which the episode goes on (R149 to R152). -/
theorem framed_newRecord (os : Four (List EntryOutcome)) (u : State) :
    (newRecord u).framed os false u = { newRecord u with
      involved := u.detector.involved
      sagDuration := if u.detector.sagEnd then u.detector.sagDuration else none
      minSupply := Phases.build fun p => enterLevel none (u.levels.supply.get p)
      phaseJump := u.detector.phaseJump
      fLowest := min u.store.level u.store.level
      forced := false || u.tracker.marks.forcedReturn
      entries := (four.filter fun k => u.inService k).map fun k => openingEntry (os.get k) u k } := by
  simp only [Record.framed, Record.handedAll_eq, Record.updated, Record.headed, newRecord, List.map_map,
    Phases.get_all, Bool.false_eq_true, if_false]
  rfl

/-- A level entered in permille, written out (R150, R152). -/
theorem enterLevel_eq (old level : Option Nat) : enterLevel old level =
    match level, old with
    | some l, some m => some (min m (l * 1000 / 8192))
    | some l, none => some (l * 1000 / 8192)
    | none, m => m := by
  cases level <;> cases old <;> rfl

/-- The outcomes of section k in a sag-start frame come to that of its transition in the frame. -/
theorem outcomes_of_sagStart {c : StepClass} {f : SampleFrame} {s : State}
    (hstarts : (judged c f s).sagStarts = true) (hup : endsIn c f s = false) (k : Fin 4) :
    (((controllerWork (judged c f s)).outcomes).get k).foldl worse .notArmed =
      worstAfter .notArmed (frameOutcome true (s.sec k) ((fillOutSlot (atSlot c f s)).sec k)) := by
  have hview : (viewOf c f s k).sagStart = true := hstarts
  have hsec : (fillOutSlot (atSlot c f s)).sec k = (movedOf c f s k).sec := by
    rw [sec_acceptedFrame (.inr hup) k, hup]
    rfl
  have houtcomes : ((controllerWork (judged c f s)).outcomes).get k = (movedOf c f s k).outcomes := by
    rw [← get_sectionFrames_judged]
    exact Four.get_map _ _ k
  rw [hsec, houtcomes, ← hview]
  exact sectionFrame_handsTransition k (viewOf c f s k) (s.sec k) .notArmed

/-- Settles O33: the list of the frame is the superseded one with room made and the new record appended;
its fields are those of the engine at the frame's end. -/
theorem sagRecordOpens : Obligations.SagRecordOpens := by
  intro c f s hacc hconf hstart
  obtain ⟨hstate, levels, trigger, hlevels, htrigger⟩ := trigger_of_sagStart hconf hstart
  obtain ⟨hsag, htrig, -, helapsed, -, -, -, hjump, -⟩ :=
    detector_judged_of_trigger hconf hstate hlevels htrigger
  have hend := sagEnd_of_sagStart hconf hstart
  have hup : endsIn c f s = false := endsIn_of_notClear (by simp [hsag])
  have hslot : atSlot c f s = recorded (judged c f s) := beforeSlot_of_undeferred (.inr hup)
  have hstarts : (judged c f s).sagStarts = true := by
    simp [State.sagStarts, (configured_stages c f s).2.2, hconf, hstart]
  obtain ⟨hseq, hframe, hlevel, hcause, -⟩ := newRecord_items c f s
  obtain ⟨-, -, -, -, -, -, hmarks⟩ := live_judged (c := c) (f := f) hconf
  have houtcomes := outcomes_of_sagStart (c := c) (f := f) hstarts hup
  obtain ⟨-, htracker, hdetector, -, hrecords, hloader, hanswered⟩ := answered_leaves (judged c f s)
  have hkept : (answered (judged c f s)).records = s.records := by
    rw [hrecords]
    simp [judged, measured]
  have hservice := (configured_inService_congr
    (congrArg Loader.tables (hloader.trans (loader_stages c f s).2.2))).2
  have hlist := list_recorded_of_sagStart hstarts
  have hnext := (recordWork_of_sagStart (hanswered.trans hstarts)
    (controllerWork (judged c f s)).outcomes (controllerWork (judged c f s)).ended).1
  obtain ⟨hlink, hflevels, hstore, hfdetector, hcontroller, hinjection⟩ :=
    recorded_eq_answered (judged c f s)
  have hended : (controllerWork (judged c f s)).ended = false := hup
  rw [hended, framed_newRecord] at hlist
  refine ⟨fillOutSlot (atSlot c f s), exec_sampleFrame_of_accepted hacc, ?next, ?older, ?record⟩
  case next =>
    rw [records_acceptedFrame, ← hkept]
    exact hnext
  case older =>
    intro closed
    have hclosed : closed = superseded (answered (judged c f s)) := by
      rw [superseded_eq, hkept, State.frameNumber, ← hlink, ← hslot]
      rfl
    have hlength : (superseded (answered (judged c f s))).length = s.records.list.length := by
      rw [superseded, updateOpen_length, hkept]
    rw [records_acceptedFrame, hlist, List.dropLast_concat, hclosed, makeRoom, hlength]
    rfl
  case record =>
    intro enter
    have henter : ∀ m l, enter m l = enterLevel m l := fun m l => (enterLevel_eq m l).symm
    rw [records_acceptedFrame, hlist, List.getLast?_concat]
    refine ⟨_, rfl, rfl, hseq, hframe, ?trigger, ?involved, ?duration, rfl, rfl, ?jump, hlevel, ?lowest,
      ?forced, fun p => ?supply, ?entries⟩
    case trigger => rw [hslot, hfdetector, hdetector, hcause, htrig, Option.getD_some]
    case involved => rw [hslot, hfdetector]
    case duration => simp [hdetector, hend]
    case jump => exact (congrArg Detector.phaseJump hdetector).trans hjump
    case lowest => exact (Nat.min_self _).trans (congrArg Allocator.level (hslot ▸ hstore).symm)
    case forced => simp [htracker, hmarks, marksIn]
    case supply => rw [henter, hslot, hflevels, Phases.get_build]
    case entries =>
      simp only [hservice]
      refine List.map_congr_left fun k _ => ?_
      have hsec : (answered (judged c f s)).sec k = (fillOutSlot (atSlot c f s)).sec k := by
        rw [State.sec, State.sec, hslot, hcontroller]
      simp only [openingEntry, houtcomes, hsec, hdetector, helapsed, henter, hslot, hflevels, hinjection,
        addEnergy, clampInt, Config.energyBound, Int.zero_add]

end Sys2Proof.Machine
end

section
/-! PROOFS. The words of ALERT and ANSWER frames (R155, R182, R184, 11.2, 11.4). -/

namespace Sys2Proof.Machine

/-! ### Fields of words (R184) -/

/-- Packed marks are read back bit by bit. -/
theorem testBit_packBits (bs : List Bool) (i : Nat) : (packBits bs).testBit i = bs.getD i false := by
  induction bs generalizing i with
  | nil => simp [packBits]
  | cons b bs ih =>
    have hbit := Bool.toNat_lt b
    cases i with
    | zero =>
      have hlow : packBits (b :: bs) % 2 = b.toNat := by
        rw [packBits]
        omega
      rw [Nat.testBit_zero, hlow, List.getD_cons_zero]
      cases b <;> rfl
    | succ i =>
      have hhigh : packBits (b :: bs) / 2 = packBits bs := by
        rw [packBits]
        omega
      rw [Nat.testBit_succ, hhigh, ih, List.getD_cons_succ]

/-- Packed marks fill as many bits as there are marks. -/
theorem packBits_lt (bs : List Bool) : packBits bs < 2 ^ bs.length := by
  induction bs with
  | nil => decide
  | cons b bs ih =>
    have hbit := Bool.toNat_le b
    simp only [packBits, List.length_cons, Nat.pow_succ]
    omega

/-- A 32-bit quantity is its two words together. -/
theorem two_append (x : BitVec 32) : (two x).getD 0 0 ++ (two x).getD 1 0 = x :=
  (BitVec.extractLsb'_append_extractLsb'_eq_extractLsb' (by decide)).trans BitVec.extractLsb'_eq_self

/-- A sealed frame ends with the CRC of the words before it (R185). -/
theorem sealFrame_crc (ws : List Word) :
    (sealFrame ws).getLast? = some (crc (sealFrame ws).dropLast) := by
  rw [sealFrame, List.getLast?_concat, List.dropLast_concat]

/-- Padding leaves the words, and gives 0 beyond them. -/
theorem padTo_getD {n i : Nat} (h : i < n) (ws : List Word) : (padTo n ws).getD i 0 = ws.getD i 0 := by
  rw [padTo, List.getD_eq_getElem?_getD, List.getD_eq_getElem?_getD, List.getElem?_take_of_lt h,
    List.getElem?_append]
  split
  · rfl
  · rename_i hbeyond
    rw [List.getElem?_eq_none (Nat.le_of_not_lt hbeyond), List.getElem?_replicate]
    split <;> rfl

/-- A padded payload has the length it is padded to. -/
theorem length_padTo (n : Nat) (ws : List Word) : (padTo n ws).length = n := by
  simp [padTo]

/-- The words of two runs: the first run's, then the second's. -/
theorem getD_append_left {ws : List Word} {i : Nat} (h : i < ws.length) (vs : List Word) :
    (ws ++ vs).getD i 0 = ws.getD i 0 := by
  rw [List.getD_eq_getElem?_getD, List.getD_eq_getElem?_getD, List.getElem?_append_left h]

theorem getD_append_right {ws : List Word} {i : Nat} (h : ws.length ≤ i) (vs : List Word) :
    (ws ++ vs).getD i 0 = vs.getD (i - ws.length) 0 := by
  rw [List.getD_eq_getElem?_getD, List.getD_eq_getElem?_getD, List.getElem?_append_right h]

/-! ### ANSWER frames (R182, 11.2) -/

/-- The payload word at an index. -/
theorem answerWords_getD (free : Bool) (snapshot : Option Record) (part : AnswerPart) {i : Nat}
    (h : i < 44) : (answerWords free snapshot part).getD (3 + i) 0 =
      (bodyWords snapshot part.body).getD i 0 := by
  rw [← padTo_getD h, answerWords, sealFrame, Nat.add_comm 3 i]
  simp only [List.cons_append, List.nil_append, List.getD_cons_succ]
  rw [getD_append_left (by rwa [length_padTo])]

/-- Every section entry has eight words. -/
theorem length_entryWords (e : Entry) : (entryWords e).length = 8 := rfl

/-- The words of the entry at an index; beyond the entries there are none. -/
theorem entries_getD (es : List Entry) (i : Nat) {j : Nat} (h : j < 8) :
    (es.flatMap entryWords).getD (8 * i + j) 0 = ((es[i]?.map entryWords).getD []).getD j 0 := by
  induction es generalizing i with
  | nil => simp
  | cons e es ih =>
    rw [List.flatMap_cons]
    cases i with
    | zero =>
      rw [Nat.mul_zero, Nat.zero_add, getD_append_left (by rwa [length_entryWords])]
      rfl
    | succ i =>
      rw [getD_append_right (by rw [length_entryWords]; omega), length_entryWords,
        show 8 * (i + 1) + j - 8 = 8 * i + j by omega, ih]
      rfl

/-- Part 1 of a record answer, its words from word 3 by index. -/
theorem answerWords_header {free : Bool} {snapshot : Option Record} {part : AnswerPart} {r : Record}
    (hsnapshot : snapshot = some r) (hbody : part.body = .recordHeader) {i : Nat} (h : i < 44) :
    (answerWords free snapshot part).getD (3 + i) 0 = (recordHeaderWords r).getD i 0 := by
  rw [answerWords_getD free snapshot part h, hsnapshot, hbody]
  rfl

/-- Part 2 of a record answer, its words from word 4 by entry and index. -/
theorem answerWords_entries {free : Bool} {snapshot : Option Record} {part : AnswerPart} {r : Record}
    (hsnapshot : snapshot = some r) (hbody : part.body = .recordEntries) (i : Fin 4) {j : Nat}
    (h : j < 8) : (answerWords free snapshot part).getD (4 + 8 * i.val + j) 0 =
      ((r.entries[i.val]?.map entryWords).getD []).getD j 0 := by
  have hpayload := answerWords_getD free snapshot part (i := 1 + (8 * i.val + j)) (by omega)
  rw [show 4 + 8 * i.val + j = 3 + (1 + (8 * i.val + j)) by omega, hpayload, hsnapshot, hbody,
    Nat.add_comm 1, ← entries_getD r.entries i.val h]
  rfl

/-- The presence bits of a record header (11.2). -/
def presence (r : Record) : List Bool :=
  [r.sagDuration.isSome, r.episodeDuration.isSome, r.minSupply.a.isSome, r.minSupply.b.isSome,
    r.minSupply.c.isSome, r.phaseJump.isSome, r.endCause.isSome]

/-- A presence bit is the mark at its index, and there are seven (11.2). -/
theorem presence_bits (r : Record) :
    (∀ i, i < 16 → (Word.ofNat (packBits (presence r))).getLsbD i = (presence r).getD i false) ∧
    (Word.ofNat (packBits (presence r))).toNat < 128 := by
  refine ⟨fun i hi => ?_, ?_⟩
  · rw [BitVec.getLsbD_ofNat, testBit_packBits, decide_eq_true hi, Bool.true_and]
  · rw [BitVec.toNat_ofNat]
    exact Nat.lt_of_le_of_lt (Nat.mod_le _ _) (packBits_lt (presence r))

/-- The presence bit of a minimum supply level (11.2). -/
theorem presence_supply (r : Record) (p : Phase) :
    (presence r).getD (2 + p.offset) false = (r.minSupply.get p).isSome := by
  cases p <;> rfl

/-- The word of a minimum supply level in a record header (11.2). -/
theorem recordHeaderWords_supply (r : Record) (p : Phase) :
    (recordHeaderWords r).getD (12 + p.offset) 0 = Word.ofNat ((r.minSupply.get p).getD 0) := by
  cases p <;> rfl

/-- Phases are numbered 0..2. -/
theorem Phase.offset_lt (p : Phase) : p.offset < 3 := by
  cases p <;> decide

/-- The mark of a CLOSED record (11.2). -/
theorem mark_closed (r : Record) : mark (!r.isOpen) = if r.isOpen then 0 else 1 := by
  cases r.isOpen <;> rfl

/-- The involved set in bits 0..2, and twice the number of involved phases from bit 3 on: the type in bits
4..5 (11.2). -/
theorem involvedWord_bits (i : Phases Bool) :
    (∀ p : Phase, (involvedWord i).getLsbD p.offset = i.get p) ∧
    (involvedWord i).toNat / 8 = 2 * (i.a.toNat + i.b.toNat + i.c.toNat) := by
  obtain ⟨a, b, c⟩ := i
  constructor
  · intro p
    cases a <;> cases b <;> cases c <;> cases p <;> decide
  · cases a <;> cases b <;> cases c <;> decide

/-- The trigger word: bit 0 for FAST, the phase above it (11.2). -/
theorem triggerWord_eq (t : Trigger) :
    Word.ofNat (t.kind.code + 2 * t.phase.offset) =
      (if t.kind = .fast then 1 else 0) + 2 * Word.ofNat t.phase.offset := by
  obtain ⟨kind, phase⟩ := t
  cases kind <;> cases phase <;> decide

/-! ### The frames, part by part -/

/-- Every ALERT frame (R182, 11.2). -/
theorem alertFrame_words (s : State) (a : AlertKind) (p : Payload) :
    (alertWords s a p).getD 0 0 = (if s.management.slot.isNone then 21 else 5) ∧
    ∀ k : Fin 4, (alertWords s a p).getD (6 + k.val) 0 = Word.ofNat (s.sec k).reported := by
  constructor
  · have hheader : (alertWords s a p).getD 0 0 = headerWord 5 s.slotFree false := rfl
    rw [hheader, State.slotFree]
    cases s.management.slot.isNone <;> decide
  · intro k
    match k with
    | 0 | 1 | 2 | 3 => rfl

/-- Settles O24: the words of each frame by index, packed fields by their bits, and the codes by
evaluation. -/
theorem frameLayouts : Obligations.FrameLayouts := by
  refine ⟨fun s a p => ?alert, fun free snapshot part => ?answer, ?codes,
    fun x => ⟨rfl, rfl, rfl⟩⟩
  case alert =>
    obtain ⟨hheader, hsections⟩ := alertFrame_words s a p
    exact ⟨rfl, sealFrame_crc _, hheader, rfl, rfl, rfl, rfl, rfl, hsections⟩
  case codes => decide
  case answer =>
    have hlength : (answerWords free snapshot part).length = 48 := by
      simp [answerWords, sealFrame, length_padTo]
    have hheader : (answerWords free snapshot part).getD 0 0 = (if free then 20 else 4) := by
      cases free <;> rfl
    refine ⟨hlength, sealFrame_crc _, hheader, rfl, rfl, fun payload hbody i => ?payload,
      fun r hsnapshot hbody => ?header, fun r hsnapshot hbody hfew => ?entries⟩
    case payload =>
      rw [answerWords_getD free snapshot part i.isLt, hbody]
      rfl
    case header =>
      have hword : ∀ i, i < 44 → (answerWords free snapshot part).getD (3 + i) 0 =
          (recordHeaderWords r).getD i 0 := fun i hi => answerWords_header hsnapshot hbody hi
      have hpresence : (answerWords free snapshot part).getD 6 0 =
          Word.ofNat (packBits (presence r)) := hword 3 (by decide)
      have hinvolved : (answerWords free snapshot part).getD 10 0 = involvedWord r.involved :=
        hword 7 (by decide)
      have htwo : ∀ i (x : BitVec 32), i + 1 < 44 → (recordHeaderWords r).getD i 0 = (two x).getD 0 0 →
          (recordHeaderWords r).getD (i + 1) 0 = (two x).getD 1 0 →
          (answerWords free snapshot part).getD (3 + i) 0 ++
            (answerWords free snapshot part).getD (3 + (i + 1)) 0 = x := by
        intro i x hi hhigh hlow
        rw [hword i (Nat.lt_of_succ_lt hi), hword (i + 1) hi, hhigh, hlow, two_append]
      obtain ⟨hbit, hseven⟩ := presence_bits r
      obtain ⟨hphases, htype⟩ := involvedWord_bits r.involved
      rw [hpresence, hinvolved]
      refine ⟨hword 0 (by decide), (hword 1 (by decide)).trans (mark_closed r), hword 2 (by decide),
        hbit 0 (by decide), hbit 1 (by decide),
        fun p => (hbit _ (by have := p.offset_lt; omega)).trans (presence_supply r p), hbit 5 (by decide),
        hbit 6 (by decide), hseven, htwo 4 r.startFrame (by decide) rfl rfl,
        (hword 6 (by decide)).trans (triggerWord_eq r.trigger), hphases, htype,
        htwo 8 (BitVec.ofNat 32 (r.sagDuration.getD 0)) (by decide) rfl rfl,
        htwo 10 (r.episodeDuration.getD 0) (by decide) rfl rfl, fun p => ?supply,
        hword 15 (by decide), hword 16 (by decide), hword 17 (by decide),
        (hword 18 (by decide)).trans rfl, fun i => ?unused⟩
      case supply =>
        rw [← recordHeaderWords_supply, ← hword _ (by have := p.offset_lt; omega), ← Nat.add_assoc]
      case unused =>
        rw [show 22 + i.val = 3 + (19 + i.val) by omega, hword _ (by omega)]
        have hbeyond : (recordHeaderWords r).length ≤ 19 + i.val := Nat.le_add_right 19 i.val
        rw [List.getD_eq_getElem?_getD, List.getElem?_eq_none hbeyond]
        rfl
    case entries =>
      have hword : ∀ (i : Fin 4) (j : Nat), j < 8 →
          (answerWords free snapshot part).getD (4 + 8 * i.val + j) 0 =
            ((r.entries[i.val]?.map entryWords).getD []).getD j 0 := fun i j hj =>
        answerWords_entries hsnapshot hbody i hj
      have hcount := answerWords_getD free snapshot part (i := 0) (by decide)
      rw [hsnapshot, hbody] at hcount
      refine ⟨hsnapshot ▸ hcount, fun i => ⟨fun e he => ?entry, fun hbeyond j => ?absent⟩⟩
      case entry =>
        have hw : ∀ j n, j < 8 → n = 4 + 8 * i.val + j →
            (answerWords free snapshot part).getD n 0 = (entryWords e).getD j 0 := by
          intro j n hj hn
          rw [hn, hword i j hj, he]
          rfl
        refine ⟨hw 0 _ (by decide) rfl, hw 1 _ (by decide) (by omega), hw 2 _ (by decide) (by omega), ?_,
          hw 5 _ (by decide) (by omega), ?_⟩
        · rw [hw 3 _ (by decide) (by omega), hw 4 _ (by decide) (by omega)]
          exact two_append _
        · rw [hw 6 _ (by decide) (by omega), hw 7 _ (by decide) (by omega)]
          exact two_append _
      case absent =>
        rw [hword i j j.isLt, List.getElem?_eq_none hbeyond]
        rfl

end Sys2Proof.Machine
end

section
/-! PROOFS. What a command can do to the load, the staging buffer and the table locks, as one inversion, and
the laws that follow: a lawful loader (R158, R160) and FIXED tables (R168, R169). -/

namespace Sys2Proof.Machine

/-! ### Everything that can happen to load, staging buffer and locks -/

/-- What any work can do to a loader's load, staging buffer and locks: leave them; open a load; write a run
that ends by the opened word count; close the load; leave a complete image PENDING; raise a lock; or unlock
a table, which when it is FIXED is one of those that `unfixes` names. -/
inductive LoaderMove (unfixes : TableId → Prop) (l m : Loader) : Prop where
  | stands (hload : m.load = l.load) (hstaging : m.staging = l.staging) (hlocks : m.locks = l.locks)
  | begun (t : TableId) (n : Nat) (hrange : wordsInRange t n = true) (hload : m.load = .opened t n)
      (hstaging : m.staging = []) (hlocks : m.locks = l.locks)
  | written (t : TableId) (n offset : Nat) (ws : List Word) (hopen : l.load = .opened t n)
      (hend : offset + ws.length ≤ n) (hload : m.load = l.load)
      (hstaging : m.staging = writeRun offset ws l.staging) (hlocks : m.locks = l.locks)
  | closed (hload : m.load = .idle) (hstaging : m.staging = []) (hlocks : m.locks = l.locks)
  | awaits (t : TableId) (n : Nat) (hopen : l.load = .opened t n)
      (hcomplete : stagingComplete n l.staging = true) (hload : m.load = .pending t n)
      (hstaging : m.staging = l.staging) (hlocks : m.locks = l.locks)
  | locked (t : TableId) (level : LockLevel) (hload : m.load = l.load) (hstaging : m.staging = l.staging)
      (hlocks : m.locks = l.locks.set t (higherLock (l.locks.get t) level))
  | unlocked (t : TableId) (hmay : l.locks.get t = .fixed → unfixes t) (hload : m.load = l.load)
      (hstaging : m.staging = l.staging) (hlocks : m.locks = l.locks.set t .unlocked)

/-- Work that leaves the loader. -/
theorem LoaderMove.of_eq {unfixes : TableId → Prop} {l m : Loader} (h : m = l) :
    LoaderMove unfixes l m := h ▸ .stands rfl rfl rfl

/-- Every such move keeps the loader lawful (R158, R160). -/
theorem loaderLawful_of_move {unfixes : TableId → Prop} {s t : State}
    (h : LoaderMove unfixes s.loader t.loader) (hs : loaderLawful s = true) : loaderLawful t = true := by
  cases h with
  | stands hload hstaging | locked _ _ hload hstaging | unlocked _ _ hload hstaging =>
    rwa [loaderLawful, hload, hstaging]
  | begun target n hrange hload hstaging =>
    simp [loaderLawful, hload, hstaging, hrange, stagingRising, stagingBelow]
  | closed hload hstaging => simp [loaderLawful, hload, hstaging, stagingRising]
  | written target n offset ws hopen hend hload hstaging =>
    simp only [loaderLawful, hopen, Bool.and_eq_true] at hs
    obtain ⟨hrising, hrange, hbelow⟩ := hs
    simp [loaderLawful, hload, hopen, hstaging, hrange, stagingRising_writeRun offset ws hrising,
      stagingBelow_writeRun hend hbelow]
  | awaits target n hopen hcomplete hload hstaging =>
    simp only [loaderLawful, hopen, Bool.and_eq_true] at hs
    obtain ⟨hrising, hrange, hbelow⟩ := hs
    simp [loaderLawful, hload, hstaging, hrising, hrange, hbelow, hcomplete]

/-- No level is higher than FIXED (R168). -/
theorem higherLock_fixed (level : LockLevel) : higherLock .fixed level = .fixed := by
  cases level <;> rfl

/-- Every such move keeps a FIXED table that it may not unlock (R168, R169). -/
theorem fixed_of_move {unfixes : TableId → Prop} {l m : Loader} {table : TableId}
    (h : LoaderMove unfixes l m) (hfixed : l.locks.get table = .fixed) (hnot : ¬ unfixes table) :
    m.locks.get table = .fixed := by
  cases h with
  | stands _ _ hlocks | begun _ _ _ _ _ hlocks | written _ _ _ _ _ _ _ _ hlocks | closed _ _ hlocks
  | awaits _ _ _ _ _ _ hlocks => rwa [hlocks]
  | locked target level _ _ hlocks =>
    rw [hlocks, Tables.get_set]
    split
    · rename_i heq
      rw [heq, hfixed, higherLock_fixed]
    · exact hfixed
  | unlocked target hmay _ _ hlocks =>
    have hne : target ≠ table := fun heq => hnot (heq ▸ hmay (heq ▸ hfixed))
    rwa [hlocks, Tables.get_set, if_neg hne]

/-! ### Frames and silence (R164) -/

/-- A deferred application closes a PENDING load, and leaves every other. -/
theorem loaderMove_deferredApply (unfixes : TableId → Prop) (s : State) :
    LoaderMove unfixes s.loader (deferredApply s).loader := by
  unfold deferredApply
  split
  · exact .closed (by simp) (by simp) (by simp)
  · exact .of_eq rfl
  · exact .of_eq rfl

/-- In an accepted frame nothing but a deferred application touches the loader. -/
theorem loaderMove_acceptFrame (unfixes : TableId → Prop) (c : StepClass) (f : SampleFrame) (s : State) :
    LoaderMove unfixes s.loader (acceptFrame c f s).loader := by
  have hrecorded : (recorded (judgeFrame s.previous c (measureFrame c f s))).loader = s.loader := by
    simp [recorded, answered]
  have hslot : (acceptFrame c f s).loader =
      (beforeSlot (judgeFrame s.previous c (measureFrame c f s))).loader := by
    simp [acceptFrame, answerFrame]
  rw [hslot, beforeSlot_eq, ← hrecorded]
  split
  · exact loaderMove_deferredApply unfixes _
  · exact .of_eq rfl

/-- A SAMPLE frame is such a move. -/
theorem loaderMove_sampleArrives (unfixes : TableId → Prop) (f : SampleFrame) (s : State) :
    LoaderMove unfixes s.loader (sampleArrives f s).loader := by
  rcases sampleArrives_cases f s with h | ⟨c, -, h⟩ <;> rw [h]
  · exact .of_eq rfl
  · exact loaderMove_acceptFrame unfixes c f s

/-- In a silence expiry nothing but a deferred application touches the loader. -/
theorem loaderMove_silenceExpires (unfixes : TableId → Prop) (s : State) :
    LoaderMove unfixes s.loader (silenceExpires s).loader := by
  have hlowered : LoaderMove unfixes s.loader (lowerAndApply (blocksSilenced s)).loader := by
    have hblocks : (blocksSilenced s).loader = s.loader := by simp
    rw [lowerAndApply, ← hblocks]
    split
    · exact loaderMove_deferredApply unfixes
        { blocksSilenced s with controller := (blocksSilenced s).controller.lowered }
    · exact .of_eq rfl
  have hrunning : (expiryRunning s).loader = (lowerAndApply (blocksSilenced s)).loader := by
    unfold expiryRunning
    dsimp only
    split <;> simp
  unfold silenceExpires
  (repeat' split)
  · exact .of_eq rfl
  · exact .of_eq rfl
  · rwa [hrunning]
  · exact .of_eq (by simp)

/-! ### Requests -/

/-- An identifier that names a table is its number (R186). -/
theorem TableId.number_of_ofNat? {n : Nat} {t : TableId} (h : TableId.ofNat? n = some t) :
    n = t.number := by
  unfold TableId.ofNat? at h
  split at h <;> cases h <;> rfl

/-- An effect that is such a move, and unlocks no FIXED table. -/
def Effect.loaderMoves (effect : Effect) : Prop :=
  ∀ (unfixes : TableId → Prop) (s : State), LoaderMove unfixes s.loader (effect s).1.loader

theorem onSection_loaderMoves {effect : Fin 4 → Effect} (arg : Word)
    (h : ∀ k, (effect k).loaderMoves) : (onSection arg effect).loaderMoves := by
  intro unfixes s
  unfold onSection
  split
  · exact h _ unfixes s
  · exact .of_eq rfl

theorem onTable_loaderMoves {effect : TableId → Effect} (arg : Word)
    (h : ∀ t, (effect t).loaderMoves) : (onTable arg effect).loaderMoves := by
  intro unfixes s
  unfold onTable
  split
  · exact h _ unfixes s
  · exact .of_eq rfl

/-- BEGIN_LOAD opens a load whose word count is in range, or leaves the load (R159). -/
theorem beginLoadEffect_loaderMoves (words : Word) (t : TableId) :
    (beginLoadEffect words t).loaderMoves := by
  intro unfixes s
  unfold beginLoadEffect
  (repeat' split)
  case isFalse.isFalse.isFalse.isFalse hrange =>
    exact .begun t words.toNat (by simpa using hrange) rfl rfl rfl
  all_goals exact .stands rfl rfl rfl

/-- LOAD_WORDS writes only words that end by the opened word count (R160). -/
theorem loadWordsEffect_loaderMoves (offset count : Word) (data : List Word) :
    (loadWordsEffect offset count data).loaderMoves := by
  intro unfixes s
  unfold loadWordsEffect
  split
  case h_1 t n hopen =>
    (repeat' split)
    · exact .stands rfl rfl rfl
    · exact .stands rfl rfl rfl
    · rename_i hend
      have htaken := List.length_take_le count.toNat data
      exact .written t n offset.toNat (data.take count.toNat) hopen (by omega) rfl rfl rfl
  case h_2 | h_3 => exact .stands rfl rfl rfl

/-- A complete image is dropped, becomes PENDING, or is applied with its load closed (R162, R163). -/
theorem loaderMove_judgeImage (unfixes : TableId → Prop) {t : TableId} {n : Nat} {s : State}
    (hopen : s.loader.load = .opened t n) (hcomplete : stagingComplete n s.loader.staging = true) :
    LoaderMove unfixes s.loader (judgeImage t n s).1.loader := by
  unfold judgeImage placeImage
  dsimp only
  (repeat' split)
  · exact .closed rfl rfl rfl
  · exact .closed rfl rfl rfl
  · exact .awaits t n hopen hcomplete rfl rfl rfl
  · exact .closed (by simp) (by simp) (by simp)

/-- COMMIT_TABLE judges a complete image, closes the load of a locked table, or leaves the load (R161). -/
theorem commitTableEffect_loaderMoves (table : Word) : (commitTableEffect table).loaderMoves := by
  intro unfixes s
  unfold commitTableEffect
  split
  case h_1 t n hopen =>
    (repeat' split)
    · exact .stands rfl rfl rfl
    · exact .closed rfl rfl rfl
    · exact .stands rfl rfl rfl
    · rename_i hcomplete
      exact loaderMove_judgeImage unfixes hopen (by simpa using hcomplete)
  case h_2 | h_3 => exact .of_eq rfl

/-- DROP_LOAD closes the load (R165). -/
theorem dropLoadEffect_loaderMoves : dropLoadEffect.loaderMoves := by
  intro unfixes s
  unfold dropLoadEffect
  split
  · exact .of_eq rfl
  · exact .closed rfl rfl rfl
  · exact .closed rfl rfl rfl

/-- LOCK_TABLE raises a lock (R168). -/
theorem lockTableEffect_loaderMoves (level : Word) (t : TableId) :
    (lockTableEffect level t).loaderMoves := by
  intro unfixes s
  unfold lockTableEffect
  split
  · exact .locked t _ rfl rfl rfl
  · exact .of_eq rfl

/-- UNLOCK_TABLE unlocks a FIXED table under MNT alone (R169). -/
theorem loaderMove_unlockTableEffect {unfixes : TableId → Prop} {t : TableId} {s : State}
    (h : s.mntLine = true → unfixes t) : LoaderMove unfixes s.loader (unlockTableEffect t s).1.loader := by
  unfold unlockTableEffect
  split
  · exact .of_eq rfl
  · rename_i hopen
    refine .unlocked t (fun hfixed => h ?_) rfl rfl rfl
    exact eq_true_of_ne_false fun hline => hopen ⟨hfixed, hline⟩

/-- RESTART closes the load (R170). -/
theorem restartEffect_loaderMoves : restartEffect.loaderMoves := fun _ _ =>
  .closed rfl rfl (by simp [restartEffect, Loader.closed])

/-- The request is UNLOCK_TABLE of a table, and the MNT pin is asserted. -/
def Request.unfixes (r : Request) (mnt : Bool) (t : TableId) : Prop :=
  mnt = true ∧ r.code.toNat = 18 ∧ r.arg1.toNat = t.number

/-- Every request but UNLOCK_TABLE is such an effect; the cases are the request codes, 22 standing for every
code that names none. -/
theorem effectOf_loaderMoves {r : Request} (h : r.code.toNat ≠ 18) : (effectOf r).loaderMoves := by
  have hleaves : ∀ effect : Effect, (∀ s, (effect s).1.loader = s.loader) → effect.loaderMoves :=
    fun effect h _ s => .of_eq (h s)
  unfold effectOf
  split
  case h_1 | h_2 | h_22 => exact hleaves _ fun _ => rfl
  case h_3 => exact onSection_loaderMoves _ fun k => hleaves _ fun _ => rfl
  case h_4 =>
    refine onTable_loaderMoves _ fun t => hleaves _ fun s => ?_
    unfold readTableEffect
    (repeat' split) <;> rfl
  case h_5 =>
    refine hleaves _ fun s => ?_
    unfold fetchRecordEffect
    split <;> rfl
  case h_6 =>
    refine hleaves _ fun s => ?_
    unfold discardRecordEffect
    (repeat' split) <;> rfl
  case h_7 =>
    refine hleaves _ fun s => ?_
    unfold runEffect
    split <;> rfl
  case h_8 => exact hleaves _ fun s => by simp [haltEffect, placeMoves]
  case h_9 => exact restartEffect_loaderMoves
  case h_10 =>
    refine onSection_loaderMoves _ fun k => hleaves _ fun s => ?_
    unfold armSectionEffect
    dsimp only
    split <;> rfl
  case h_11 =>
    refine onSection_loaderMoves _ fun k => hleaves _ fun s => ?_
    unfold disarmSectionEffect
    split <;> simp
  case h_12 =>
    refine onSection_loaderMoves _ fun k => hleaves _ fun s => ?_
    unfold clearFaultEffect
    dsimp only
    split <;> rfl
  case h_13 => exact onTable_loaderMoves _ (beginLoadEffect_loaderMoves _)
  case h_14 => exact loadWordsEffect_loaderMoves _ _ _
  case h_15 => exact commitTableEffect_loaderMoves _
  case h_16 => exact dropLoadEffect_loaderMoves
  case h_17 => exact onTable_loaderMoves _ (lockTableEffect_loaderMoves _)
  case h_18 hcode => exact absurd hcode h
  case h_19 => exact fun _ _ => .stands rfl rfl rfl
  case h_20 =>
    refine hleaves _ fun s => ?_
    unfold setAlertMaskEffect
    split <;> rfl
  case h_21 =>
    refine hleaves _ fun s => ?_
    unfold clearAlertsEffect
    split <;> rfl

/-- A request is such a move; the one that unlocks a FIXED table is UNLOCK_TABLE of it under MNT. -/
theorem loaderMove_effectOf (r : Request) (s : State) :
    LoaderMove (r.unfixes s.mntLine) s.loader (effectOf r s).1.loader := by
  by_cases hcode : r.code.toNat = 18
  · have heffect : effectOf r = onTable r.arg1 unlockTableEffect := by simp only [effectOf, hcode]
    rw [heffect, onTable]
    split
    · rename_i t ht
      exact loaderMove_unlockTableEffect fun hline => ⟨hline, hcode, TableId.number_of_ofNat? ht⟩
    · exact .of_eq rfl
  · exact effectOf_loaderMoves hcode _ s

/-- A MANAGE frame is such a move. -/
theorem loaderMove_serve (r : Request) (s : State) :
    LoaderMove (r.unfixes s.mntLine) s.loader (serve r (effectOf r) s).loader := by
  rcases serve_cases r (effectOf r) s with h | h | ⟨-, h⟩ <;> rw [h]
  · exact .of_eq rfl
  · exact .of_eq rfl
  · exact loaderMove_effectOf r (s.slotted r)

/-- Settles O54: what any work does to the loader keeps it lawful. -/
theorem loaderStaysLawful : Obligations.LoaderStaysLawful := by
  intro s t hs h
  exact step_keeps (law := fun s => loaderLawful s = true)
    (pins := fun _ _ _ _ hs => hs) (atReset := rfl)
    (sample := fun f s => loaderLawful_of_move (loaderMove_sampleArrives (fun _ => False) f s))
    (silence := fun s => loaderLawful_of_move (loaderMove_silenceExpires (fun _ => False) s))
    (request := fun r s => loaderLawful_of_move (loaderMove_serve r s)) hs h

end Sys2Proof.Machine
end

section
/-! PROOFS. The requests to the table loader: READ_TABLE, BEGIN_LOAD, LOAD_WORDS, COMMIT_TABLE, DROP_LOAD and
CLEAR_LOAD_FLAGS, each as its tests in their order (R159 to R167). -/

namespace Sys2Proof.Machine

/-- A request that finds the slot empty is served by its effect on the engine with the request in its slot,
and its answer is queued (R171). -/
theorem serve_of_effect {r : Request} {effect : Effect} {s t : State} {reply : Reply}
    (hslot : slotOpen s = true) (hdata : r.data.length = 16)
    (h : effect (s.begin.slotted r) = (t, reply)) :
    serve r effect s.begin = t.queued (reply.parts r.code) :=
  (serve_of_slotOpen effect hdata hslot).trans (acceptRequest_of_effect h)

/-- A request without data words is one. -/
theorem serve_plain_of_effect {code : Nat} {a b c : Word} {effect : Effect} {s t : State} {reply : Reply}
    (hslot : slotOpen s = true) (h : effect (s.begin.slotted (Request.plain code a b c)) = (t, reply)) :
    serve (Request.plain code a b c) effect s.begin = t.queued (reply.parts (Word.ofNat code)) :=
  serve_of_effect hslot (plain_data_length code a b c) h

/-- A table argument outside 0..5 is answered BAD_ARGUMENT, and nothing else changes (R186). -/
theorem serve_onTable_of_out {code : Nat} {table b c : Word} (effect : TableId → Effect) {s : State}
    (hslot : slotOpen s = true) (h : 5 < table.toNat) :
    serve (Request.plain code table b c) (onTable table effect) s.begin =
      s.taken (Request.plain code table b c) .badArgument [] :=
  (serve_plain_of_effect hslot (congrFun (onTable_of_out effect h) _)).trans rfl

/-- A table argument in 0..5 is served by the effect on its table. -/
theorem serve_onTable_of_effect {code : Nat} {table b c : Word} {t : TableId} {effect : TableId → Effect}
    {s u : State} {reply : Reply} (hslot : slotOpen s = true) (htable : table.toNat = t.number)
    (h : effect t (s.begin.slotted (Request.plain code table b c)) = (u, reply)) :
    serve (Request.plain code table b c) (onTable table effect) s.begin =
      u.queued (reply.parts (Word.ofNat code)) :=
  serve_plain_of_effect hslot ((congrFun (onTable_of_toNat effect htable) _).trans h)

/-! ### READ_TABLE (R167) -/

/-- A table that is not valid has no words to read. -/
theorem readTableEffect_of_none (offset count : Word) {t : TableId} {s : State}
    (h : s.loader.tables.get t = none) :
    readTableEffect offset count t s = (s, Reply.code .refusedState) := by
  simp only [readTableEffect, State.image, h]

/-- A valid table is read within its image, at most sixteen words. -/
theorem readTableEffect_of_some (offset count : Word) {t : TableId} {s : State} {image : List Word}
    (h : s.loader.tables.get t = some image) : readTableEffect offset count t s =
      if count.toNat < 1 ∨ 16 < count.toNat ∨ image.length < offset.toNat + count.toNat then
        (s, Reply.code .badArgument)
      else (s, Reply.words (count :: (image.drop offset.toNat).take count.toNat)) := by
  simp only [readTableEffect, State.image, h]

/-- Settles O39: a table out of range, one that is not valid, and the range of a valid one. -/
theorem readTableAnswer : Obligations.ReadTableAnswer := by
  refine ⟨fun table offset count s hslot hout =>
      congrArg Host.Outcome.next (serve_onTable_of_out _ hslot hout),
    fun t table offset count s hslot htable => ⟨fun hnone => congrArg Host.Outcome.next ?invalid,
      fun image himage => ⟨fun hrange => congrArg Host.Outcome.next ?range,
        fun hleast hmost hend => congrArg Host.Outcome.next ?words⟩⟩⟩
  case invalid =>
    exact (serve_onTable_of_effect hslot htable (readTableEffect_of_none offset count hnone)).trans rfl
  case range =>
    have heffect := (readTableEffect_of_some offset count
      (s := s.begin.slotted (Request.plain 4 table offset count)) himage).trans (if_pos hrange)
    exact (serve_onTable_of_effect hslot htable heffect).trans rfl
  case words =>
    have heffect := (readTableEffect_of_some offset count
      (s := s.begin.slotted (Request.plain 4 table offset count)) himage).trans (if_neg (by omega))
    exact (serve_onTable_of_effect hslot htable heffect).trans rfl

/-! ### BEGIN_LOAD (R159) -/

/-- The word ranges of the six tables. -/
theorem wordsInRange_iff (t : TableId) (n : Nat) : wordsInRange t n = true ↔
    (t = .calibration ∧ n = 56) ∨ (t = .supply ∧ n = 7) ∨ (t = .sections ∧ n = 48) ∨
      (t = .curves ∧ 1 ≤ n ∧ n ≤ 145) ∨ (t = .store ∧ n = 10) ∨ (t = .reference ∧ n = 8) := by
  cases t <;> simp [wordsInRange]

/-- Some sticky flag is set exactly when one of the four is. -/
theorem Sticky.any_iff (f : Sticky) : f.any = true ↔
    f.lockedTarget = true ∨ f.sequence = true ∨ f.content = true ∨ f.cross = true := by
  simp only [Sticky.any, Bool.or_eq_true, or_assoc]

/-- The tests of BEGIN_LOAD, one after another. -/
theorem beginLoadEffect_eq (words : Word) (t : TableId) (s : State) : beginLoadEffect words t s =
    if s.loader.load ≠ .idle then (s, Reply.code .loadOpen)
    else if s.loader.sticky.lockedTarget = true ∨ s.loader.sticky.sequence = true ∨
        s.loader.sticky.content = true ∨ s.loader.sticky.cross = true then
      (s, Reply.code .statusNotClear)
    else if s.loader.locks.get t ≠ .unlocked then (s.setLockedTarget, Reply.code .locked)
    else if wordsInRange t words.toNat = false then (s, Reply.code .badArgument)
    else ({ s with loader := { s.loader with load := .opened t words.toNat, staging := [] } },
      Reply.code .ok) := by
  simp only [beginLoadEffect, Sticky.any_iff, Bool.not_eq_true']

/-- Settles O45: the word ranges, a table out of range, and the tests one after another. -/
theorem beginLoadAnswer : Obligations.BeginLoadAnswer := by
  refine ⟨wordsInRange_iff, fun table words s hslot hout =>
    congrArg Host.Outcome.next (serve_onTable_of_out _ hslot hout),
    fun t table words s hslot htable => congrArg Host.Outcome.next ?_⟩
  have hserve := fun {u : State} {reply : Reply} =>
    serve_onTable_of_effect (code := 13) (b := words) (c := 0) (effect := beginLoadEffect words)
      (u := u) (reply := reply) hslot htable
  have htests := beginLoadEffect_eq words t (s.begin.slotted (Request.plain 13 table words 0))
  split
  case isTrue hload => exact (hserve (htests.trans (if_pos hload))).trans rfl
  case isFalse hload =>
    replace htests := htests.trans (if_neg hload)
    split
    case isTrue hsticky => exact (hserve (htests.trans (if_pos hsticky))).trans rfl
    case isFalse hsticky =>
      replace htests := htests.trans (if_neg hsticky)
      split
      case isTrue hlock => exact (hserve (htests.trans (if_pos hlock))).trans rfl
      case isFalse hlock =>
        replace htests := htests.trans (if_neg hlock)
        split
        case isTrue hrange => exact (hserve (htests.trans (if_pos hrange))).trans rfl
        case isFalse hrange => exact (hserve (htests.trans (if_neg hrange))).trans rfl

/-! ### LOAD_WORDS (R160) -/

/-- Without an OPEN load nothing is written. -/
theorem loadWordsEffect_of_notOpened (offset count : Word) (data : List Word) {s : State}
    (h : ∀ t n, s.loader.load ≠ .opened t n) :
    loadWordsEffect offset count data s = (s.setSequence, Reply.code .noLoad) := by
  unfold loadWordsEffect
  split
  · rename_i hopen
    exact absurd hopen (h _ _)
  · rfl
  · rfl

/-- Under an OPEN load the words are written when they are one to sixteen and end by the word count. -/
theorem loadWordsEffect_of_opened (offset count : Word) (data : List Word) {s : State} {t : TableId}
    {n : Nat} (h : s.loader.load = .opened t n) : loadWordsEffect offset count data s =
      if count.toNat < 1 ∨ 16 < count.toNat ∨ n < offset.toNat + count.toNat then
        (s.setSequence, Reply.code .badArgument)
      else
        ({ s with loader := { s.loader with
            staging := writeRun offset.toNat (data.take count.toNat) s.loader.staging } },
          Reply.code .ok) := by
  simp only [loadWordsEffect, h]
  split
  · rename_i hcount
    rw [if_pos (by omega)]
  · split
    · rename_i hend
      rw [if_pos (.inr (.inr hend))]
    · rw [if_neg (by omega)]

/-- Settles O46: no OPEN load, a run out of range, and what a run in range leaves at every index. -/
theorem loadWordsAnswer : Obligations.LoadWordsAnswer := by
  intro offset count data s hslot hdata
  have hserve := fun {u : State} {reply : Reply} =>
    serve_of_effect (r := ⟨14, offset, count, 0, data⟩) (effect := loadWordsEffect offset count data)
      (t := u) (reply := reply) hslot hdata
  refine ⟨fun hnone => congrArg Host.Outcome.next ?noLoad, fun t n hopen => ?opened⟩
  case noLoad => exact (hserve (loadWordsEffect_of_notOpened offset count data hnone)).trans rfl
  case opened =>
    have heffect := loadWordsEffect_of_opened offset count data
      (s := s.begin.slotted ⟨14, offset, count, 0, data⟩) hopen
    refine ⟨fun hrange => ?_, fun hleast hmost hend => ⟨_, congrArg Host.Outcome.next
      (hserve (heffect.trans (if_neg (by omega)))), rfl, fun i => ?_⟩⟩
    · exact congrArg Host.Outcome.next ((hserve (heffect.trans (if_pos hrange))).trans rfl)
    · have hlength : (data.take count.toNat).length = count.toNat := by
        rw [List.length_take, hdata, Nat.min_eq_left hmost]
      refine (readStaging_writeRun offset.toNat i (data.take count.toNat) s.loader.staging).trans ?_
      rw [hlength]
      split
      · rename_i hwithin
        rw [List.getD_eq_getElem?_getD, List.getD_eq_getElem?_getD,
          List.getElem?_take_of_lt (by omega)]
      · rfl

/-! ### COMMIT_TABLE (R161 to R163) -/

/-- Every index below `n` is marked written. -/
theorem stagingComplete_iff (n : Nat) (m : Staging) :
    stagingComplete n m = true ↔ ∀ i, i < n → readStaging i m ≠ none := by
  simp [stagingComplete, Option.isSome_iff_ne_none]

/-- Without an OPEN load nothing is committed. -/
theorem commitTableEffect_of_notOpened (table : Word) {s : State}
    (h : ∀ t n, s.loader.load ≠ .opened t n) :
    commitTableEffect table s = (s, Reply.code .noLoad) := by
  unfold commitTableEffect
  split
  · rename_i hopen
    exact absurd hopen (h _ _)
  · rfl
  · rfl

/-- The tests of an OPEN load, one after another (R161, R162, R163). -/
theorem commitTableEffect_of_opened (table : Word) {s : State} {t : TableId} {n : Nat}
    (h : s.loader.load = .opened t n) : commitTableEffect table s =
      if table.toNat ≠ t.number then (s.setSequence, Reply.code .badArgument)
      else if s.loader.locks.get t ≠ .unlocked then (closeLoad s.setLockedTarget, Reply.code .locked)
      else if stagingComplete n s.loader.staging = false then
        (s.setSequence, Reply.code .incomplete)
      else if contentValid t (stagingImage n s.loader.staging) = false then
        (closeLoad s.setContent, Reply.code .tableInvalid)
      else if crossValid s t (stagingImage n s.loader.staging) = false then
        (closeLoad s.setCross, Reply.code .tableInvalid)
      else placeImage t n s := by
  simp only [commitTableEffect, judgeImage, h, Bool.not_eq_true']

/-- The application of a table leaves the loader but for the table's contents (R163). -/
theorem loader_applyTable (t : TableId) (image : List Word) (s : State) :
    (applyTable t image s).loader =
      { s.loader with tables := s.loader.tables.set t (some image) } := by
  simp only [applyTable, reactTo_leaves]
  rfl

/-- An answer that is queued enters the management unit's queue alone. -/
theorem management_queued (s : State) (parts : List AnswerPart) :
    (s.queued parts).management = { s.management with queue := parts } := rfl

/-- Settles O48: each test fails in its turn, and an image that passes them all is placed. -/
theorem commitTableAnswer : Obligations.CommitTableAnswer := by
  intro table s hslot
  have hserve := fun {u : State} {reply : Reply} =>
    serve_plain_of_effect (code := 15) (a := table) (b := 0) (c := 0)
      (effect := commitTableEffect table) (t := u) (reply := reply) hslot
  refine ⟨fun hnone => congrArg Host.Outcome.next ?noLoad, fun t n hopen => ?opened⟩
  case noLoad => exact (hserve (commitTableEffect_of_notOpened table hnone)).trans rfl
  case opened =>
    have htests := commitTableEffect_of_opened table
      (s := s.begin.slotted (Request.plain 15 table 0 0)) hopen
    refine ⟨fun hother => congrArg Host.Outcome.next ?other,
      fun htable hlocked => congrArg Host.Outcome.next ?locked,
      fun htable hlock => ⟨fun ⟨i, hi, hmissing⟩ => congrArg Host.Outcome.next ?incomplete,
        fun hwritten => ?complete⟩⟩
    case other => exact (hserve (htests.trans (if_pos hother))).trans rfl
    all_goals replace htests := htests.trans (if_neg fun hother => hother htable)
    case locked => exact (hserve (htests.trans (if_pos hlocked))).trans rfl
    all_goals replace htests := htests.trans (if_neg fun hlocked => hlocked hlock)
    case incomplete =>
      have hcomplete : stagingComplete n s.loader.staging = false :=
        Bool.eq_false_iff.2 fun h => (stagingComplete_iff n _).1 h i hi hmissing
      exact (hserve (htests.trans (if_pos hcomplete))).trans rfl
    case complete =>
      have hcomplete := (stagingComplete_iff n s.loader.staging).2 hwritten
      replace htests := htests.trans (if_neg (Bool.not_eq_false _ ▸ hcomplete))
      refine ⟨fun hcontent => congrArg Host.Outcome.next
        ((hserve (htests.trans (if_pos hcontent))).trans rfl), fun hcontent => ?_⟩
      replace htests := htests.trans (if_neg (Bool.not_eq_false _ ▸ hcontent))
      refine ⟨fun hcross => congrArg Host.Outcome.next
        ((hserve (htests.trans (if_pos hcross))).trans rfl), fun hcross => ?_⟩
      replace htests := htests.trans (if_neg (Bool.not_eq_false _ ▸ hcross))
      refine ⟨fun hup => congrArg Host.Outcome.next
        ((hserve (htests.trans (if_pos hup))).trans rfl), fun hdown => ?_⟩
      refine ⟨_, exec_commitTable_of_accepted hslot htable hopen hlock hcomplete hcontent hcross hdown,
        ?_, loader_applyTable t _ (closeLoad (s.begin.slotted (Request.plain 15 table 0 0)))⟩
      simp only [management_queued, applyTable_leaves]
      rfl

/-! ### DROP_LOAD and CLEAR_LOAD_FLAGS (R165, R166) -/

/-- In IDLE there is nothing to drop. -/
theorem dropLoadEffect_of_idle {s : State} (h : s.loader.load = .idle) :
    dropLoadEffect s = (s, Reply.code .noLoad) := by
  simp only [dropLoadEffect, h]

/-- In OPEN and in PENDING the load is closed. -/
theorem dropLoadEffect_of_load {s : State} (h : s.loader.load ≠ .idle) :
    dropLoadEffect s = (closeLoad s, Reply.code .ok) := by
  unfold dropLoadEffect
  split
  · rename_i hidle
    exact absurd hidle h
  · rfl
  · rfl

/-- Settles O50: the effect of DROP_LOAD by the load state, and CLEAR_LOAD_FLAGS outright. -/
theorem dropLoadAndClearFlags : Obligations.DropLoadAndClearFlags := by
  refine ⟨fun s hslot => ⟨fun hidle => congrArg Host.Outcome.next ?idle,
    fun hload => congrArg Host.Outcome.next ?load⟩, fun s hslot => congrArg Host.Outcome.next ?flags⟩
  case idle => exact (serve_plain_of_effect hslot (dropLoadEffect_of_idle hidle)).trans rfl
  case load => exact (serve_plain_of_effect hslot (dropLoadEffect_of_load hload)).trans rfl
  case flags => exact (serve_plain_of_effect (effect := clearLoadFlagsEffect) hslot rfl).trans rfl

end Sys2Proof.Machine
end

section
/-! PROOFS. The table locks: LOCK_TABLE and UNLOCK_TABLE, and that no other command unlocks a FIXED table
(R168, R169). -/

namespace Sys2Proof.Machine

/-! ### LOCK_TABLE (R168) -/

/-- The levels 1 and 2 are LOCKED and FIXED, and the higher of one and the present level stands. -/
theorem lockArg_of_level {level : Word} (h : level = 1 ∨ level = 2) :
    ∃ l, lockArg level = some l ∧ ∀ present : LockLevel,
      higherLock present l = if level = 2 ∨ present = .fixed then .fixed else .locked := by
  rcases h with rfl | rfl
  · exact ⟨.locked, rfl, fun present => by cases present <;> rfl⟩
  · exact ⟨.fixed, rfl, fun present => by cases present <;> rfl⟩

/-- LOCK_TABLE with one of these levels sets the lock. -/
theorem lockTableEffect_of_level {level : Word} (h : level = 1 ∨ level = 2) (t : TableId) (s : State) :
    lockTableEffect level t s =
      (s.withLock t (if level = 2 ∨ s.loader.locks.get t = .fixed then .fixed else .locked),
        Reply.code .ok) := by
  obtain ⟨l, hl, hhigher⟩ := lockArg_of_level h
  simp only [lockTableEffect, hl, hhigher]

/-- Only 1 and 2 name a lock level (11.2, R186). -/
theorem lockArg_eq_none {level : Word} (h1 : level ≠ 1) (h2 : level ≠ 2) : lockArg level = none := by
  unfold lockArg
  split
  · rename_i h
    exact absurd (BitVec.eq_of_toNat_eq h) h1
  · rename_i h
    exact absurd (BitVec.eq_of_toNat_eq h) h2
  · rfl

/-- LOCK_TABLE with another level, or outside 0..5, is answered BAD_ARGUMENT. -/
theorem onTable_lockTableEffect_of_bad {table level : Word}
    (h : 5 < table.toNat ∨ (level ≠ 1 ∧ level ≠ 2)) (s : State) :
    onTable table (lockTableEffect level) s = (s, Reply.code .badArgument) := by
  rcases h with hout | ⟨h1, h2⟩
  · rw [onTable_of_out _ hout]
  · unfold onTable
    split
    · simp only [lockTableEffect, lockArg_eq_none h1 h2]
    · rfl

/-! ### UNLOCK_TABLE (R169) -/

/-- A FIXED table without MNT is answered LOCKED. -/
theorem unlockTableEffect_of_fixed {t : TableId} {s : State} (hfixed : s.loader.locks.get t = .fixed)
    (hline : s.mntLine = false) : unlockTableEffect t s = (s, Reply.code .locked) :=
  if_pos ⟨hfixed, hline⟩

/-- Every other table, and a FIXED one under MNT, is unlocked. -/
theorem unlockTableEffect_of_free {t : TableId} {s : State}
    (h : s.loader.locks.get t ≠ .fixed ∨ s.mntLine = true) :
    unlockTableEffect t s = (s.withLock t .unlocked, Reply.code .ok) := by
  refine if_neg fun ⟨hfixed, hline⟩ => ?_
  rcases h with hother | hmnt
  · exact hother hfixed
  · simp [hline] at hmnt

/-! ### FIXED stays FIXED (R169) -/

/-- No request of a code other than 18 unlocks a table. -/
theorem plain_not_unfixes {code : Nat} {a b c : Word} {mnt : Bool} {t : TableId}
    (h : (Word.ofNat code).toNat ≠ 18) : ¬ (Request.plain code a b c).unfixes mnt t :=
  fun ⟨_, hcode, _⟩ => h hcode

/-- A command that may not unlock a FIXED table leaves every lock, or is a request other than UNLOCK_TABLE of
that table under MNT (log 7). -/
theorem exec_of_not_mayUnfix {c : Instr} {s : State} {table : TableId}
    (h : mayUnfix c s.mntLine table = false) : ∃ t, exec c s = .next t ∧
      (t.loader.locks = s.loader.locks ∨
        ∃ r, ¬ r.unfixes (mntAfter c s.mntLine) table ∧ t = serve r (effectOf r) (s.arrived c)) := by
  cases c with
  | powerOnReset => cases h
  | resetLineRelease => exact ⟨_, rfl, .inl rfl⟩
  | silenceExpiry => exact ⟨_, rfl, .inl (by simp)⟩
  | deferredApplication | answerPart | alertFrame => exact ⟨_, rfl, .inl (by simp)⟩
  | sampleFrame | windowRefillDone | lockGained | badCrossingUnlock | quietUnlock
  | referenceBecameTracking | forcedReturn | sagStart | sagEnd | feedbackAccepted | openConfirmed
  | openStuck | closeConfirmed | closeStuck | overcurrent | armApplied | disarmApplied
  | automaticRearm => exact ⟨_, rfl, .inl (by simp)⟩
  | discardWithoutTrace frame =>
    refine ⟨_, rfl, ?_⟩
    unfold wordsArrive
    (repeat' split)
    · exact .inl (by simp)
    · refine .inr ⟨requestOfWords frame, fun ⟨hmnt, hcode, harg⟩ => ?_, rfl⟩
      have hpin : s.mntLine = true := hmnt
      simp [mayUnfix, hpin, hcode, harg] at h
    · exact .inl rfl
  | unknownRequest code arg1 arg2 arg3 data =>
    refine ⟨_, rfl, .inr ⟨⟨code, arg1, arg2, arg3, data⟩, fun ⟨hmnt, hcode, harg⟩ => ?_, rfl⟩⟩
    have hpin : s.mntLine = true := hmnt
    simp [mayUnfix, hpin, hcode, harg] at h
  | unlockTable w line =>
    refine ⟨_, rfl, .inr ⟨Request.plain 18 w 0 0, fun ⟨hmnt, _, harg⟩ => ?_, rfl⟩⟩
    have hpin : line = true := hmnt
    have hnumber : w.toNat = table.number := harg
    simp [mayUnfix, hpin, hnumber] at h
  | loadWords offset count data =>
    exact ⟨_, rfl, .inr ⟨⟨14, offset, count, 0, data⟩,
      fun ⟨_, hcode, _⟩ => absurd hcode (by decide : (14 : Word).toNat ≠ 18), rfl⟩⟩
  | readIdent | readStatus | readSection | readTable | fetchRecord | discardRecord | run | halt
  | restart | armSection | disarmSection | clearFault | beginLoad | commitTable | dropLoad | lockTable
  | clearLoadFlags | setAlertMask | clearAlerts =>
    exact ⟨_, rfl, .inr ⟨_, plain_not_unfixes (by decide), rfl⟩⟩

/-- Settles O51: the two requests by their tests; and what any command does to the locks keeps a FIXED table
that it may not unlock. -/
theorem tableLocks : Obligations.TableLocks := by
  refine ⟨⟨⟨fun t table level s hslot htable hlevel => congrArg Host.Outcome.next ?lock,
    fun table level s hslot hbad => congrArg Host.Outcome.next ?badLock⟩,
    fun table mnt s hslot hout => congrArg Host.Outcome.next ?badUnlock,
    fun t table mnt s hslot htable => ⟨fun hfixed hline => congrArg Host.Outcome.next ?fixed,
      fun hfree => congrArg Host.Outcome.next ?free⟩⟩, fun c s table hfixed hmay => ?stays⟩
  case lock =>
    exact (serve_onTable_of_effect hslot htable (lockTableEffect_of_level hlevel t _)).trans rfl
  case badLock =>
    exact (serve_plain_of_effect hslot (onTable_lockTableEffect_of_bad hbad _)).trans rfl
  case badUnlock =>
    exact (serve_onTable_of_out (s := { s with mntLine := mnt }) unlockTableEffect hslot hout).trans rfl
  case fixed =>
    exact (serve_onTable_of_effect (s := { s with mntLine := mnt }) hslot htable
      (unlockTableEffect_of_fixed hfixed hline)).trans rfl
  case free =>
    exact (serve_onTable_of_effect (s := { s with mntLine := mnt }) hslot htable
      (unlockTableEffect_of_free hfree)).trans rfl
  case stays =>
    obtain ⟨t, ht, hlocks | ⟨r, hnot, rfl⟩⟩ := exec_of_not_mayUnfix hmay
    · exact ⟨t, ht, hlocks ▸ hfixed⟩
    · exact ⟨_, ht, fixed_of_move (loaderMove_serve r (s.arrived c)) hfixed hnot⟩

end Sys2Proof.Machine
end

section
/-! PROOFS. The answer queue of the request slot (R171 to R174): the slot is occupied exactly while parts of
its answer wait. -/

namespace Sys2Proof.Machine

/-! ### The law of the slot, and work that keeps it -/

/-- The law of the slot in words: occupied exactly while parts wait, at most two of them. -/
theorem slotLawful_iff (s : State) : slotLawful s = true ↔
    (s.management.slot = none ↔ s.management.queue = []) ∧ s.management.queue.length ≤ 2 := by
  cases hslot : s.management.slot <;> cases hqueue : s.management.queue <;>
    simp [slotLawful, hslot, hqueue]

/-- Work that leaves slot and queue keeps the law. -/
theorem slotLawful_of_eq {s t : State} (hs : slotLawful s = true)
    (hslot : t.management.slot = s.management.slot) (hqueue : t.management.queue = s.management.queue) :
    slotLawful t = true := by
  rwa [slotLawful, hslot, hqueue]

/-- The out slot keeps the law: the last part leaves together with the slot (R173). -/
theorem slotLawful_fillOutSlot {s : State} (hs : slotLawful s = true) :
    slotLawful (fillOutSlot s) = true := by
  rcases fillOutSlot_cases s with ⟨hslot, hqueue, -⟩ | ⟨part, rest, hparts, hsent⟩
  · exact slotLawful_of_eq hs hslot hqueue
  · obtain ⟨hrest, hlast, hmore⟩ := sendPart_answer part rest s
    obtain ⟨hoccupied, hlength⟩ := (slotLawful_iff s).1 hs
    rw [hparts, List.length_cons] at hlength
    rw [hsent, slotLawful_iff, hrest]
    refine ⟨?_, by omega⟩
    by_cases hempty : rest = []
    · exact iff_of_true (hlast hempty).1 hempty
    · simp [hempty, (hmore hempty).1, hoccupied, hparts]

/-- A SAMPLE frame touches the answer in its out slot alone. -/
theorem slotLawful_sampleArrives (f : SampleFrame) {s : State} (hs : slotLawful s = true) :
    slotLawful (sampleArrives f s) = true := by
  rcases sampleArrives_cases f s with h | ⟨c, -, h⟩ <;> rw [h]
  · exact hs
  · exact slotLawful_fillOutSlot (slotLawful_of_eq hs (by simp) (by simp))

/-- A silence expiry touches the answer in its out slot alone, if it opens one (R127). -/
theorem slotLawful_silenceExpires {s : State} (hs : slotLawful s = true) :
    slotLawful (silenceExpires s) = true := by
  have hlowered : slotLawful (lowerAndApply (blocksSilenced s)) = true :=
    slotLawful_of_eq hs (by simp) (by simp)
  have hrunning : slotLawful (expiryRunning s) = true := by
    unfold expiryRunning
    dsimp only
    split
    · exact slotLawful_fillOutSlot (slotLawful_of_eq hlowered rfl rfl)
    · exact hlowered
  unfold silenceExpires
  (repeat' split)
  · exact hs
  · exact hs
  · exact hrunning
  · exact slotLawful_of_eq hs (by simp) (by simp)

/-! ### Requests -/

/-- An effect has left the slot and given an answer of one or two parts (R171, R173). -/
structure Answered (s : State) (out : State × Reply) : Prop where
  slot : out.1.management.slot = s.management.slot
  some_body : out.2.bodies ≠ []
  two_bodies : out.2.bodies.length ≤ 2

/-- An answer of one part. -/
theorem Answered.one {s t : State} {res : ResultCode} {body : PartBody}
    (h : t.management.slot = s.management.slot) : Answered s (t, ⟨res, [body]⟩) :=
  ⟨h, List.cons_ne_nil _ _, by simp⟩

/-- So is a request that names a section, in range or not (R174). -/
theorem answered_onSection {effect : Fin 4 → Effect} (arg : Word) (s : State)
    (h : ∀ k, Answered s (effect k s)) : Answered s (onSection arg effect s) := by
  unfold onSection
  split
  · exact h _
  · exact .one rfl

/-- So is a request that names a table, in range or not (R186). -/
theorem answered_onTable {effect : TableId → Effect} (arg : Word) (s : State)
    (h : ∀ t, Answered s (effect t s)) : Answered s (onTable arg effect s) := by
  unfold onTable
  split
  · exact h _
  · exact .one rfl

/-- A record is fetched in two parts, and an empty list answered in one (R155). -/
theorem answered_fetchRecordEffect (s : State) : Answered s (fetchRecordEffect s) := by
  unfold fetchRecordEffect
  split
  · exact .one rfl
  · exact ⟨rfl, List.cons_ne_nil _ _, Nat.le_refl 2⟩

/-- DISCARD_RECORD touches the record list alone (R156). -/
theorem answered_discardRecordEffect (seq : Word) (s : State) :
    Answered s (discardRecordEffect seq s) := by
  unfold discardRecordEffect
  (repeat' split) <;> exact .one rfl

/-- BEGIN_LOAD touches the loader alone (R159). -/
theorem answered_beginLoadEffect (words : Word) (t : TableId) (s : State) :
    Answered s (beginLoadEffect words t s) := by
  unfold beginLoadEffect
  (repeat' split) <;> exact .one rfl

/-- LOAD_WORDS touches the loader alone (R160). -/
theorem answered_loadWordsEffect (offset count : Word) (data : List Word) (s : State) :
    Answered s (loadWordsEffect offset count data s) := by
  unfold loadWordsEffect
  (repeat' split) <;> exact .one rfl

/-- COMMIT_TABLE leaves the slot, also when it applies the table at once (R161 to R163). -/
theorem answered_commitTableEffect (table : Word) (s : State) :
    Answered s (commitTableEffect table s) := by
  unfold commitTableEffect judgeImage placeImage
  dsimp only
  (repeat' split) <;> exact .one (by simp)

/-- Every request leaves the slot that it has been accepted into, and is answered in one or two parts. -/
theorem answered_of_isRequestEffect {effect : Effect} (h : IsRequestEffect effect) (s : State) :
    Answered s (effect s) := by
  cases h with
  | unknown | readIdent | readStatus | clearLoadFlags => exact .one rfl
  | readSection arg => exact answered_onSection arg s fun _ => .one rfl
  | readTable arg offset count =>
    refine answered_onTable arg s fun t => ?_
    unfold readTableEffect
    (repeat' split) <;> exact .one rfl
  | fetchRecord => exact answered_fetchRecordEffect s
  | discardRecord seq => exact answered_discardRecordEffect seq s
  | run =>
    unfold runEffect
    split <;> exact .one rfl
  | halt => exact .one (by simp [placeMoves])
  | restart => exact .one (by simp)
  | armSection arg =>
    refine answered_onSection arg s fun k => ?_
    unfold armSectionEffect
    dsimp only
    split <;> exact .one rfl
  | disarmSection arg =>
    refine answered_onSection arg s fun k => ?_
    unfold disarmSectionEffect
    split <;> exact .one (by simp)
  | clearFault arg =>
    refine answered_onSection arg s fun k => ?_
    unfold clearFaultEffect
    dsimp only
    split <;> exact .one rfl
  | beginLoad arg words => exact answered_onTable arg s fun t => answered_beginLoadEffect words t s
  | loadWords offset count data => exact answered_loadWordsEffect offset count data s
  | commitTable table => exact answered_commitTableEffect table s
  | dropLoad =>
    unfold dropLoadEffect
    split <;> exact .one rfl
  | lockTable arg level =>
    refine answered_onTable arg s fun t => ?_
    unfold lockTableEffect
    split <;> exact .one rfl
  | unlockTable arg =>
    refine answered_onTable arg s fun t => ?_
    unfold unlockTableEffect
    split <;> exact .one rfl
  | setAlertMask marks =>
    unfold setAlertMaskEffect
    split <;> exact .one rfl
  | clearAlerts marks =>
    unfold clearAlertsEffect
    split <;> exact .one rfl

/-- An answer has one part for each body (R173). -/
theorem length_numberParts (code : Word) (res : ResultCode) (parts number : Nat)
    (bodies : List PartBody) : (numberParts code res parts number bodies).length = bodies.length := by
  induction bodies generalizing number with
  | nil => rfl
  | cons body bodies ih => rw [numberParts, List.length_cons, List.length_cons, ih]

/-- The answer to a request in the slot occupies the queue (R171). -/
theorem slotLawful_queued {s t : State} {r : Request} {reply : Reply}
    (h : Answered (s.slotted r) (t, reply)) : slotLawful (t.queued (reply.parts r.code)) = true := by
  have hlength : (reply.parts r.code).length = reply.bodies.length := length_numberParts _ _ _ _ _
  rw [slotLawful_iff, management_queued]
  refine ⟨iff_of_false (h.slot ▸ Option.some_ne_none r) fun hempty => h.some_body ?_,
    hlength ▸ h.two_bodies⟩
  exact List.eq_nil_of_length_eq_zero (hlength ▸ congrArg List.length hempty)

/-- A MANAGE frame keeps the law: an accepted request fills slot and queue together (R171, R172). -/
theorem slotLawful_serve (r : Request) {s : State} (hs : slotLawful s = true) :
    slotLawful (serve r (effectOf r) s) = true := by
  rcases serve_cases r (effectOf r) s with h | h | ⟨-, h⟩ <;> rw [h]
  · exact hs
  · exact slotLawful_of_eq hs rfl rfl
  · rw [acceptRequest_of_effect rfl]
    exact slotLawful_queued (answered_of_isRequestEffect (effectOf_isRequestEffect r) (s.slotted r))

/-- Settles O58: arrivals touch the answer in their out slot alone, and requests fill slot and queue
together. -/
theorem slotStaysLawful : Obligations.SlotStaysLawful := by
  intro s t hs h
  exact step_keeps (law := fun s => slotLawful s = true)
    (pins := fun _ _ _ _ hs => hs) (atReset := rfl)
    (sample := fun f _ => slotLawful_sampleArrives f)
    (silence := fun _ => slotLawful_silenceExpires)
    (request := fun r _ => slotLawful_serve r) hs h

end Sys2Proof.Machine
end

section
/-! PROOFS. The requests that read the engine, and those on the alerts (R172, R174 to R177, R180). -/

namespace Sys2Proof.Machine

/-! ### Requests that change nothing but their slot -/

/-- A request whose effect leaves the engine and answers one part. -/
theorem serve_unchanged {r : Request} {effect : Effect} {s : State} {res : ResultCode} {ws : List Word}
    (hslot : slotOpen s = true) (hdata : r.data.length = 16)
    (h : effect (s.begin.slotted r) = (s.begin.slotted r, ⟨res, [.words ws]⟩)) :
    serve r effect s.begin = s.taken r res ws :=
  (serve_of_slotOpen effect hdata hslot).trans (acceptRequest_unchanged r h)

/-- A request without data words is one. -/
theorem serve_plain_unchanged {code : Nat} {a b c : Word} {effect : Effect} {s : State}
    {res : ResultCode} {ws : List Word} (hslot : slotOpen s = true)
    (h : effect (s.begin.slotted (Request.plain code a b c)) =
      (s.begin.slotted (Request.plain code a b c), ⟨res, [.words ws]⟩)) :
    serve (Request.plain code a b c) effect s.begin = s.taken (Request.plain code a b c) res ws :=
  serve_unchanged hslot (plain_data_length code a b c) h

/-- Settles O37: the effect answers the identification and changes nothing. -/
theorem readIdentAnswer : Obligations.ReadIdentAnswer := fun _ hslot =>
  congrArg Host.Outcome.next (serve_plain_unchanged (effect := readIdentEffect) hslot rfl)

/-! ### READ_STATUS (R176, 11.2) -/

/-- Packed marks in a word are read back bit by bit (R184). -/
theorem getLsbD_packBits (bs : List Bool) {i : Nat} (h : i < 16) :
    (Word.ofNat (packBits bs)).getLsbD i = bs.getD i false := by
  rw [BitVec.getLsbD_ofNat, testBit_packBits, decide_eq_true h, Bool.true_and]

/-- A family of tables listed in identifier order. -/
theorem Tables.toList_getD {α β : Type} (x : Tables α) (g : α → β) (t : TableId) (d : β) :
    (x.toList.map g).getD t.number d = g (x.get t) := by
  cases t <;> rfl

/-- The alert kinds are listed in the order of their numbers (R179). -/
theorem alertKinds_getD {β : Type} (g : AlertKind → β) (a : AlertKind) (d : β) :
    (alertKinds.map g).getD a.number d = g a := by
  cases a <;> rfl

/-- Every alert number is the number of a bit of a word. -/
theorem AlertKind.number_lt (a : AlertKind) : a.number < 16 := by
  cases a <;> decide

/-- Load target and word count fill two words in every load state (11.2). -/
theorem length_loadWordsOf (l : Load) : (loadWordsOf l).length = 2 := by
  cases l <;> rfl

/-- The status payload has 34 words (11.2). -/
theorem length_statusWords (s : State) : (statusWords s).length = 34 := by
  simp [statusWords, two, Four.toList, length_loadWordsOf]

/-- The status payload from the written words on, whatever the load state (11.2). -/
theorem statusWords_fromWritten (s : State) (i : Nat) : (statusWords s).getD (30 + i) 0 =
    [Word.ofNat s.loader.staging.length,
      Word.ofNat (packBits [s.loader.sticky.lockedTarget, s.loader.sticky.sequence,
        s.loader.sticky.content, s.loader.sticky.cross]),
      Word.ofNat (packBits (alertKinds.map fun k => (s.management.alerts.get k).isSome)),
      Word.ofNat (packBits (alertKinds.map fun k => s.management.mask.get k))].getD i 0 := by
  rw [statusWords, getD_append_right (by simp [two, Four.toList, length_loadWordsOf])]
  simp [two, Four.toList, length_loadWordsOf]

/-- The reported section states stand at words 7..10 (11.2). -/
theorem statusWords_sections (s : State) (k : Fin 4) :
    (statusWords s).getD (7 + k.val) 0 = Word.ofNat (s.sec k).reported := by
  match k with
  | 0 | 1 | 2 | 3 => rfl

/-- The valid tables stand at word 25 by identifier (11.2). -/
theorem statusWords_valid (s : State) (t : TableId) :
    ((statusWords s).getD 25 0).getLsbD t.number = s.valid t := by
  have hword : (statusWords s).getD 25 0 =
      Word.ofNat (packBits (s.loader.tables.toList.map Option.isSome)) := rfl
  rw [hword, getLsbD_packBits _ (Nat.lt_of_le_of_lt t.number_le (by decide)), Tables.toList_getD]
  rfl

/-- Alert flags and mask stand at words 32 and 33 by number (11.2). -/
theorem statusWords_alerts (s : State) (a : AlertKind) :
    ((statusWords s).getD 32 0).getLsbD a.number = (s.management.alerts.get a).isSome ∧
    ((statusWords s).getD 33 0).getLsbD a.number = s.management.mask.get a := by
  rw [statusWords_fromWritten s 2, statusWords_fromWritten s 3]
  exact ⟨(getLsbD_packBits _ a.number_lt).trans (alertKinds_getD _ a false),
    (getLsbD_packBits _ a.number_lt).trans (alertKinds_getD _ a false)⟩

/-! ### READ_SECTION (R177, 11.2) -/

/-- The fault cause in the section payload: that of no fault where there is none (11.2, 11.4). -/
theorem sectionWords_faultCause (s : State) (k : Fin 4) :
    (sectionWords s k).getD 5 0 = Word.ofNat ((s.sec k).faultCause.getD .none).code := by
  have hword : (sectionWords s k).getD 5 0 =
      Word.ofNat (((s.sec k).faultCause.map Cause.code).getD 0) := rfl
  rw [hword]
  cases (s.sec k).faultCause <;> rfl

/-- Settles O38: the payloads by index, and the two requests by their effects. -/
theorem statusReads : Obligations.StatusReads := by
  refine ⟨fun s hslot => ⟨congrArg Host.Outcome.next ?status, length_statusWords s, rfl, rfl,
      two_append _, rfl, rfl, rfl, statusWords_sections s, rfl, rfl, rfl, rfl, rfl, rfl, rfl,
      statusWords_valid s, rfl, statusWords_fromWritten s 0, statusWords_alerts s⟩,
    fun sec k s hslot hsec => ⟨congrArg Host.Outcome.next ?inRange, rfl, rfl, rfl, rfl, rfl, rfl,
      sectionWords_faultCause s k, rfl, rfl, rfl, rfl, rfl, rfl, rfl, rfl, rfl, rfl, rfl,
      two_append _⟩,
    fun sec s hslot hout => congrArg Host.Outcome.next ?outside⟩
  case status => exact serve_plain_unchanged (effect := readStatusEffect) hslot rfl
  case inRange => exact serve_plain_unchanged hslot (congrFun (onSection_of_toNat _ hsec) _)
  case outside => exact serve_plain_unchanged hslot (congrFun (onSection_of_out _ hout) _)

/-! ### The occupied slot (R172), and unknown codes (R174) -/

/-- Every MANAGE frame is judged by the request slot, with sixteen data words. -/
theorem exec_of_isRequest {c : Instr} (h : isRequest c = true) (s : State) :
    ∃ (r : Request) (effect : Effect), r.data.length = 16 ∧
      exec c s = .next (serve r effect (s.arrived c)) := by
  cases c with
  | unknownRequest code arg1 arg2 arg3 data =>
    exact ⟨⟨code, arg1, arg2, arg3, data⟩, _, beq_iff_eq.1 h, rfl⟩
  | loadWords offset count data => exact ⟨⟨14, offset, count, 0, data⟩, _, beq_iff_eq.1 h, rfl⟩
  | sampleFrame | discardWithoutTrace | powerOnReset | resetLineRelease | silenceExpiry
  | windowRefillDone | lockGained | badCrossingUnlock | quietUnlock | referenceBecameTracking
  | forcedReturn | sagStart | sagEnd | feedbackAccepted | openConfirmed | openStuck | closeConfirmed
  | closeStuck | overcurrent | armApplied | disarmApplied | automaticRearm | deferredApplication
  | answerPart | alertFrame => cases h
  | readIdent | readStatus | readSection | readTable | fetchRecord | discardRecord | run | halt
  | restart | armSection | disarmSection | clearFault | beginLoad | commitTable | dropLoad | lockTable
  | unlockTable | clearLoadFlags | setAlertMask | clearAlerts =>
    exact ⟨_, _, plain_data_length _ _ _ _, rfl⟩

/-- A code of 0 or above 21 names no request (R174). -/
theorem effectOf_of_unknown {r : Request} (h : r.code.toNat = 0 ∨ 21 < r.code.toNat) :
    effectOf r = unknownEffect := by
  unfold effectOf
  split
  case h_22 => rfl
  all_goals omega

/-! ### SET_ALERT_MASK and CLEAR_ALERTS (R180) -/

/-- Marks beyond kind 10 are answered BAD_ARGUMENT by both requests (R186). -/
theorem alertEffects_of_beyond {marks : Word} (h : 2048 ≤ marks.toNat) (s : State) :
    setAlertMaskEffect marks s = (s, Reply.code .badArgument) ∧
    clearAlertsEffect marks s = (s, Reply.code .badArgument) := by
  have hbeyond : marksBeyond marks = true := decide_eq_true h
  exact ⟨if_pos hbeyond, if_pos hbeyond⟩

/-- Marks within the kinds are the mask, and clear the marked flags (R180). -/
theorem alertEffects_of_within {marks : Word} (h : marks.toNat < 2048) (s : State) :
    setAlertMaskEffect marks s =
      ({ s with management := { s.management with mask := maskOf marks } }, Reply.code .ok) ∧
    clearAlertsEffect marks s =
      ({ s with management := { s.management with
          alerts := clearMarked marks s.management.alerts } }, Reply.code .ok) := by
  have hwithin : ¬ marksBeyond marks = true := by simpa [marksBeyond] using h
  exact ⟨if_neg hwithin, if_neg hwithin⟩

/-- Settles O52: the occupied slot and the unknown code by the request slot, the alert requests by their
effects. -/
theorem overrunUnknownAndAlertRequests : Obligations.OverrunUnknownAndAlertRequests := by
  refine ⟨⟨fun c s hrequest hline hoccupied => ?overrun,
      fun code a b c data s hslot hdata hcode => congrArg Host.Outcome.next ?unknown⟩,
    fun marks s hslot hbeyond => ⟨congrArg Host.Outcome.next ?badMask,
      congrArg Host.Outcome.next ?badClear⟩,
    fun marks s hslot hwithin => ⟨?mask, ?clear⟩⟩
  case overrun =>
    obtain ⟨r, effect, hdata, hexec⟩ := exec_of_isRequest hrequest s
    rw [hexec, serve_of_occupied (s := s.arrived c) effect hline hdata hoccupied]
    rfl
  case unknown =>
    exact serve_unchanged hslot hdata (congrFun (effectOf_of_unknown hcode) _)
  case badMask => exact serve_plain_unchanged hslot (alertEffects_of_beyond hbeyond _).1
  case badClear => exact serve_plain_unchanged hslot (alertEffects_of_beyond hbeyond _).2
  case mask =>
    refine ⟨_, congrArg Host.Outcome.next (serve_plain_of_effect hslot
      (alertEffects_of_within hwithin _).1), rfl, fun a => ?_⟩
    exact PerKind.get_build _ a
  case clear =>
    refine ⟨_, congrArg Host.Outcome.next (serve_plain_of_effect hslot
      (alertEffects_of_within hwithin _).2), rfl, fun a => ?_⟩
    exact PerKind.get_build _ a

end Sys2Proof.Machine
end

section
/-! PROOFS. Frames as words at the In port: which words pass the checks of R1, what arriving words come to, and
the words of SAMPLE and MANAGE frames read back, and the requests that codes name (R1, R184, R185, 11.2). -/

namespace Sys2Proof.Machine

/-! ### The checks of R1 -/

/-- The In port knows two kinds, each with its length (R1). -/
theorem inPortLength_eq_some_iff {kind n : Nat} :
    inPortLength kind = some n ↔ (n = 32 ∧ kind = 1) ∨ (n = 22 ∧ kind = 2) := by
  unfold inPortLength
  by_cases hsample : kind = 1
  · rw [if_pos hsample, Option.some.injEq]
    omega
  · rw [if_neg hsample]
    by_cases hmanage : kind = 2
    · rw [if_pos hmanage, Option.some.injEq]
      omega
    · rw [if_neg hmanage]
      exact iff_of_false nofun (by omega)

/-- Words pass when they have their kind's length and end in the CRC of the words before (R1, R185). -/
theorem passesChecks_iff (frame : List Word) : passesChecks frame = true ↔
    inPortLength (headerKind (frame.getD 0 0)) = some frame.length ∧
    frame.getLast? = some (crc frame.dropLast) := by
  unfold passesChecks
  split
  case h_1 hunknown => simp only [hunknown, Bool.false_eq_true, reduceCtorEq, false_and]
  case h_2 len hlen =>
    have hpos : len ≠ 0 := by
      rcases inPortLength_eq_some_iff.1 hlen with ⟨h, -⟩ | ⟨h, -⟩ <;> simp [h]
    rw [hlen, Bool.and_eq_true, beq_iff_eq, beq_iff_eq, Option.some.injEq, eq_comm (a := len)]
    refine and_congr_right fun hlength => ?_
    have hindex : frame.length - 1 < frame.length := by omega
    rw [← hlength, ← List.dropLast_eq_take, List.getLast?_eq_getElem?, List.getD_eq_getElem?_getD,
      List.getElem?_eq_getElem hindex, Option.getD_some, Option.some.injEq]

/-- A sealed frame passes when it has its kind's length, counting header and CRC word (R1, R185). -/
theorem passesChecks_sealFrame_iff (header : Word) (ws : List Word) :
    passesChecks (sealFrame (header :: ws)) = true ↔
      inPortLength (headerKind header) = some (ws.length + 2) := by
  rw [passesChecks_iff, and_iff_left (sealFrame_crc _)]
  simp [sealFrame]

/-! ### What arriving words come to (R1) -/

/-- Words that fail a check are discarded. -/
theorem wordsArrive_of_failing {frame : List Word} (h : passesChecks frame = false) (s : State) :
    wordsArrive frame s = s := by
  simp [wordsArrive, h]

/-- Words that pass with kind 1 are a SAMPLE frame. -/
theorem wordsArrive_of_sample {frame : List Word} (h : passesChecks frame = true)
    (hkind : headerKind (frame.getD 0 0) = 1) (s : State) :
    wordsArrive frame s = sampleArrives (sampleOfWords frame) s := by
  rw [wordsArrive, if_pos h, if_pos hkind]

/-- Words that pass with another kind are a request. -/
theorem wordsArrive_of_request {frame : List Word} (h : passesChecks frame = true)
    (hkind : headerKind (frame.getD 0 0) ≠ 1) (s : State) :
    wordsArrive frame s = serve (requestOfWords frame) (effectOf (requestOfWords frame)) s := by
  rw [wordsArrive, if_pos h, if_neg hkind]

/-- Settles O4: the two known kinds with their lengths, and the discard of any other words. -/
theorem failingFramesAreDiscarded : Obligations.FailingFramesAreDiscarded := by
  refine ⟨fun frame => ?checks,
    fun frame s hfails => congrArg Host.Outcome.next (wordsArrive_of_failing hfails s.begin)⟩
  case checks =>
    rw [passesChecks_iff, inPortLength_eq_some_iff, List.headD_eq_getD]
    rfl

/-! ### The words of a SAMPLE frame (11.2) -/

/-- The words of a frame of 28 codes pass the checks of R1. -/
theorem passesChecks_wordsOfSample {f : SampleFrame} (h : f.codes.length = 28) :
    passesChecks (wordsOfSample f) = true :=
  (passesChecks_sealFrame_iff 1 _).2 (inPortLength_eq_some_iff.2 (.inl ⟨by simp [h], rfl⟩))

/-- Every field of a SAMPLE frame is read back from its words. -/
theorem sampleOfWords_wordsOfSample {f : SampleFrame} (h : f.codes.length = 28) :
    sampleOfWords (wordsOfSample f) = f := by
  simp [sampleOfWords, wordsOfSample, sealFrame, h, Config.channelCount]

/-- The words of a SAMPLE frame arrive as that frame. -/
theorem wordsArrive_wordsOfSample {f : SampleFrame} (h : f.codes.length = 28) (s : State) :
    wordsArrive (wordsOfSample f) s = sampleArrives f s := by
  rw [wordsArrive_of_sample (passesChecks_wordsOfSample h) rfl, sampleOfWords_wordsOfSample h]

/-! ### The words of a MANAGE frame (11.2) -/

/-- The words of a request of sixteen data words pass the checks of R1. -/
theorem passesChecks_wordsOfRequest {r : Request} (h : r.data.length = 16) :
    passesChecks (wordsOfRequest r) = true :=
  (passesChecks_sealFrame_iff 2 _).2 (inPortLength_eq_some_iff.2 (.inr ⟨by simp [h], rfl⟩))

/-- Every field of a request is read back from its words. -/
theorem requestOfWords_wordsOfRequest {r : Request} (h : r.data.length = 16) :
    requestOfWords (wordsOfRequest r) = r := by
  simp [requestOfWords, wordsOfRequest, sealFrame, h]

/-- The words of a request arrive as that request, served by its code. -/
theorem wordsArrive_wordsOfRequest {r : Request} (h : r.data.length = 16) (s : State) :
    wordsArrive (wordsOfRequest r) s = serve r (effectOf r) s := by
  have hkind : headerKind ((wordsOfRequest r).getD 0 0) ≠ 1 := show (2 : Nat) ≠ 1 by decide
  rw [wordsArrive_of_request (passesChecks_wordsOfRequest h) hkind, requestOfWords_wordsOfRequest h]

/-- Settles O5: both kinds of words arrive as what they hold, and a request of the table is by definition
served as the request of its code, with the effect that `effectOf` gives that code (11.2, log 7). -/
theorem frameWordsRoundTrip : Obligations.FrameWordsRoundTrip := by
  refine ⟨fun f hwf => ?sample, fun r hdata => ?manage, fun a b c d s => ?codes⟩
  case sample =>
    have hcodes : f.codes.length = 28 := beq_iff_eq.1 hwf
    exact ⟨passesChecks_wordsOfSample hcodes, sampleOfWords_wordsOfSample hcodes,
      fun s => congrArg Host.Outcome.next (wordsArrive_wordsOfSample hcodes s.begin)⟩
  case manage =>
    exact ⟨passesChecks_wordsOfRequest hdata, requestOfWords_wordsOfRequest hdata,
      fun s => congrArg Host.Outcome.next (wordsArrive_wordsOfRequest hdata s.begin)⟩
  case codes =>
    exact ⟨rfl, rfl, rfl, rfl, rfl, rfl, rfl, rfl, rfl, rfl, rfl, rfl, rfl, rfl, rfl, rfl, rfl, rfl,
      rfl, rfl, rfl⟩

end Sys2Proof.Machine
end

section
/-! PROOFS. The queue of a step (log 1), and the event rows as the arrivals that they carry (log 2). -/

namespace Sys2Proof.Machine

/-! ### The queue -/

/-- A step takes the front command and leaves the queue's rest. -/
theorem step_of_pending_cons {c : Instr} {rest : List Instr} {s : State} (h : s.pending = c :: rest) :
    step s = exec c { s with pending := rest } := by
  rw [step, h]

/-- The block idles on an empty queue. -/
theorem step_of_pending_nil {s : State} (h : s.pending = []) : step s = .next s := by
  rw [step, h]

/-- Settles O1: the two cases of the queue. -/
theorem stepRunsFrontCommand : Obligations.StepRunsFrontCommand :=
  ⟨fun _ _ _ => step_of_pending_cons rfl, fun _ => step_of_pending_nil⟩

/-! ### The arrival that a command carries -/

/-- The SAMPLE frame or the silence expiry that a command carries, by its own name or under an event row's
(log 2); the words at the In port, the two commands of the reset line and the requests carry none. -/
def arrivalOf : Instr → Option Occasion
  | .sampleFrame f | .windowRefillDone f | .lockGained f | .badCrossingUnlock f | .quietUnlock f
  | .referenceBecameTracking f | .forcedReturn f | .sagStart f | .sagEnd f | .feedbackAccepted f
  | .openConfirmed f | .openStuck f | .closeConfirmed f | .closeStuck f | .overcurrent f | .armApplied f
  | .disarmApplied f | .automaticRearm f => some (.sample f)
  | .silenceExpiry => some .silence
  | .deferredApplication o | .answerPart o | .alertFrame o => some o
  | _ => none

/-- A command that carries an arrival does what the arrival does, whatever row names it (log 2). -/
theorem exec_of_arrivalOf {c : Instr} {o : Occasion} (h : arrivalOf c = some o) (s : State) :
    exec c s = .next (occasionArrives o s.begin) := by
  cases c with
  | sampleFrame f | windowRefillDone f | lockGained f | badCrossingUnlock f | quietUnlock f
  | referenceBecameTracking f | forcedReturn f | sagStart f | sagEnd f | feedbackAccepted f
  | openConfirmed f | openStuck f | closeConfirmed f | closeStuck f | overcurrent f | armApplied f
  | disarmApplied f | automaticRearm f | silenceExpiry | deferredApplication o | answerPart o
  | alertFrame o =>
    cases h
    rfl
  | _ => nomatch h

/-- Commands that carry the same arrival do the same. -/
theorem exec_eq_of_arrivalOf_eq {c d : Instr} {o : Occasion} (hc : arrivalOf c = some o)
    (hd : arrivalOf d = some o) (s : State) : exec c s = exec d s :=
  (exec_of_arrivalOf hc s).trans (exec_of_arrivalOf hd s).symm

/-- Settles O3: each row carries the arrival that it is compared with. -/
theorem eventRowsProcessTheirArrival : Obligations.EventRowsProcessTheirArrival := by
  refine ⟨fun f s c hrow => exec_eq_of_arrivalOf_eq (o := .sample f) ?sample rfl s,
    fun s c hrow => exec_eq_of_arrivalOf_eq (o := .silence) ?silence rfl s⟩
  case sample =>
    revert c
    simp [arrivalOf]
  case silence =>
    revert c
    simp [arrivalOf]

end Sys2Proof.Machine
end

section
/-! PROOFS. The two laws of the section states: none is ARMED, WATCHING, INJECTING or RETURNING while HALTED,
all are OUT while the engine is not configured (R78, R80, R128). -/

namespace Sys2Proof.Machine

/-! ### The laws, and work that keeps them -/

/-- A state that a section may hold while HALTED (R80). -/
def SecState.idle (st : SecState) : Bool := !st.active || st == .releasing

/-- While HALTED every section is idle (R80). -/
def idleWhileHalted (s : State) : Prop :=
  s.controller.run = .halted → ∀ k, (s.sec k).state.idle = true

/-- While the engine is not configured every section is OUT (R78). -/
def outWhileUnconfigured (s : State) : Prop :=
  s.configured = false → ∀ k, (s.sec k).state = .out

/-- The law of the model says this. -/
theorem haltedLawful_iff (s : State) : haltedLawful s = true ↔ idleWhileHalted s := by
  unfold haltedLawful idleWhileHalted
  rw [Bool.or_eq_true, Four.all_toList]
  cases s.controller.run <;> simp [State.sec, SecState.idle]

/-- The law of the model says this. -/
theorem unconfiguredLawful_iff (s : State) : unconfiguredLawful s = true ↔ outWhileUnconfigured s := by
  unfold unconfiguredLawful outWhileUnconfigured
  rw [Bool.or_eq_true, Four.all_toList]
  cases s.configured <;> simp [State.sec]

/-- Work that keeps both laws. -/
structure SectionLawsKept (s t : State) : Prop where
  halted : idleWhileHalted s → idleWhileHalted t
  unconfigured : outWhileUnconfigured s → outWhileUnconfigured t

theorem SectionLawsKept.trans {s t u : State} (hst : SectionLawsKept s t) (htu : SectionLawsKept t u) :
    SectionLawsKept s u :=
  ⟨htu.halted ∘ hst.halted, htu.unconfigured ∘ hst.unconfigured⟩

/-- Work on the sections one by one, under the same tables and in the same run state. -/
theorem SectionLawsKept.of_sections {s t : State} (htables : t.loader.tables = s.loader.tables)
    (hrun : t.controller.run = s.controller.run)
    (hidle : s.controller.run = .halted → ∀ k, (s.sec k).state.idle = true →
      (t.sec k).state.idle = true)
    (hout : ∀ k, (s.sec k).state = .out → (t.sec k).state = .out) : SectionLawsKept s t where
  halted hs hhalted k := hidle (hrun ▸ hhalted) k (hs (hrun ▸ hhalted) k)
  unconfigured hs hnot k := hout k (hs ((configured_inService_congr htables).1 ▸ hnot) k)

/-- Work that leaves the tables and the section controller alone. -/
theorem SectionLawsKept.of_stand {s t : State} (htables : t.loader.tables = s.loader.tables)
    (hcontroller : t.controller = s.controller) : SectionLawsKept s t := by
  have hsec : ∀ k, t.sec k = s.sec k := fun k => by rw [State.sec, hcontroller, State.sec]
  exact .of_sections htables (congrArg Controller.run hcontroller) (fun _ k h => by rwa [hsec])
    (fun k h => by rwa [hsec])

/-- Work that leaves every section idle, and an OUT one OUT. -/
theorem SectionLawsKept.of_idle {s t : State} (htables : t.loader.tables = s.loader.tables)
    (hidle : ∀ k, (t.sec k).state.idle = true)
    (hout : ∀ k, (s.sec k).state = .out → (t.sec k).state = .out) : SectionLawsKept s t where
  halted _ _ := hidle
  unconfigured hs hnot k := hout k (hs ((configured_inService_congr htables).1 ▸ hnot) k)

/-! ### The application of a table (R78, R163, R164) -/

/-- What a section becomes under the application of a table: it stands, leaves OUT, or goes there (R78). -/
inductive Section.Tabled (x : Section) : Section → Prop where
  | stands : Tabled x x
  | joins (h : x.state = .out) : Tabled x { x with state := .bypassed }
  | leaves : Tabled x x.toOut

/-- A Section Table has one of these effects (R78). -/
theorem tabled_retabled (configured inService : Bool) (x : Section) :
    x.Tabled (x.retabled configured inService) := by
  unfold Section.retabled
  split
  · rename_i hout
    exact .joins hout
  · exact .stands
  · exact .stands
  · exact .leaves
  · exact .stands

/-- So has every table. -/
theorem tabled_applyTable (t : TableId) (image : List Word) (s : State) (k : Fin 4) :
    (s.sec k).Tabled ((applyTable t image s).sec k) := by
  by_cases ht : t = .sections
  · rw [ht, sec_applyTable_sections]
    exact tabled_retabled _ _ _
  · rw [sec_applyTable_of_ne ht]
    split
    · rename_i hjoins
      exact .joins hjoins.2.2.2
    · exact .stands

/-- A deferred application has one of these effects (R164). -/
theorem tabled_deferredApply (s : State) (k : Fin 4) :
    (s.sec k).Tabled ((deferredApply s).sec k) := by
  unfold deferredApply
  split
  · exact tabled_applyTable _ _ (closeLoad s) k
  · exact .stands
  · exact .stands

/-- Each of them keeps a section idle. -/
theorem Section.Tabled.idle {x y : Section} (h : x.Tabled y) (hx : x.state.idle = true) :
    y.state.idle = true := by
  cases h with
  | stands => exact hx
  | joins => rfl
  | leaves => rfl

/-- A table that is applied is valid, and the others stay so: a configured engine stays configured. -/
theorem configured_applyTable (t : TableId) (image : List Word) {s : State} (h : s.configured = true) :
    (applyTable t image s).configured = true := by
  have hvalid : ∀ u, s.valid u = true → (applyTable t image s).valid u = true := by
    intro u hu
    rw [State.valid, image_applyTable]
    split
    · rfl
    · exact hu
  simp only [State.configured, Bool.and_eq_true] at h ⊢
  obtain ⟨⟨⟨⟨⟨hcalibration, hsupply⟩, hsections⟩, hcurves⟩, hstore⟩, hreference⟩ := h
  exact ⟨⟨⟨⟨⟨hvalid _ hcalibration, hvalid _ hsupply⟩, hvalid _ hsections⟩, hvalid _ hcurves⟩,
    hvalid _ hstore⟩, hvalid _ hreference⟩

/-- An engine that is not configured with the table leaves its sections alone (R78). -/
theorem sec_applyTable_of_unconfigured {t : TableId} {image : List Word} {s : State}
    (h : (applyTable t image s).configured = false) (k : Fin 4) :
    (applyTable t image s).sec k = s.sec k := by
  by_cases ht : t = .sections
  · subst ht
    rw [sec_applyTable_sections, h, retabled_of_unconfigured]
  · rw [sec_applyTable_of_ne ht, h]
    simp

/-- The application of a table keeps both laws. -/
theorem sectionLawsKept_applyTable (t : TableId) (image : List Word) (s : State) :
    SectionLawsKept s (applyTable t image s) where
  halted hs hhalted k := by
    have hrun : (applyTable t image s).controller.run = s.controller.run := by simp
    rw [hrun] at hhalted
    exact (tabled_applyTable t image s k).idle (hs hhalted k)
  unconfigured hs hnot k := by
    rw [sec_applyTable_of_unconfigured hnot]
    refine hs ?_ k
    cases hconf : s.configured with
    | false => rfl
    | true => simp [configured_applyTable t image hconf] at hnot

/-- Closing a load, and raising an alert, keep both laws. -/
theorem sectionLawsKept_closeLoad (s : State) : SectionLawsKept s (closeLoad s) := .of_stand rfl rfl

theorem sectionLawsKept_raise (s : State) (k : AlertKind) (p : Payload) :
    SectionLawsKept s (s.raise k p) := .of_stand rfl rfl

/-- A deferred application keeps both laws. -/
theorem sectionLawsKept_deferredApply (s : State) : SectionLawsKept s (deferredApply s) := by
  unfold deferredApply
  split
  · exact ((sectionLawsKept_closeLoad s).trans (sectionLawsKept_applyTable _ _ _)).trans
      (sectionLawsKept_raise _ _ _)
  · exact .of_stand rfl rfl
  · exact .of_stand rfl rfl

/-! ### A section in a frame (R84) -/

/-- Without the arming conditions a BYPASSED section stays BYPASSED (R101, R102, R106). -/
theorem state_decideBypassed_of_mayNotArm {v : SectionView} {x : Section}
    (h : (v.mayArm && x.feedback == .closed) = false) : (decideBypassed v x).sec.state = x.state := by
  unfold decideBypassed atBoundary
  simp only [h, Bool.and_false, Bool.false_eq_true, if_false]
  (repeat' split) <;> rfl

/-- A RELEASING section stays so, is closed or faults (R88). -/
theorem idle_decideReleasing (k : Fin 4) (closeTimesOut closeOk : Bool) {x : Section}
    (hx : x.state.idle = true) : (decideReleasing k closeTimesOut closeOk x).sec.state.idle = true := by
  unfold decideReleasing
  (repeat' split)
  · rfl
  · rfl
  · exact hx

/-- A FAULT section stays in FAULT (R88). -/
theorem idle_decideFault (k : Fin 4) (turnedOpen closeTimesOut closeOk : Bool) {x : Section}
    (hx : x.state.idle = true) :
    (decideFault k turnedOpen closeTimesOut closeOk x).sec.state.idle = true := by
  unfold decideFault
  (repeat' split) <;> exact hx

/-- Without the arming conditions the decision of R84 keeps a section idle. -/
theorem idle_decideByState (k : Fin 4) {v : SectionView} (hmay : v.mayArm = false) (n : ConfirmNews)
    {x : Section} (hx : x.state.idle = true) : (decideByState k v n x).sec.state.idle = true := by
  unfold decideByState
  split
  · rw [(enterFault_sec k _ x).1]
    rfl
  · cases h : x.state with
    | out => exact hx
    | bypassed =>
      have hstays : (decideBypassed v x).sec.state = x.state :=
        state_decideBypassed_of_mayNotArm (by rw [hmay, Bool.false_and])
      exact (congrArg SecState.idle hstays).trans hx
    | releasing => exact idle_decideReleasing k _ _ hx
    | fault => exact idle_decideFault k _ _ _ hx
    | armed | watching | injecting | returningSlewing | returningClosing =>
      rw [h] at hx
      cases hx

/-- The section that the decision of a frame finds holds the state of its start (R83, R87). -/
theorem state_deciding (v : SectionView) (x : Section) (ok : Bool) :
    (if ok then (x.updated v).endConfirm else x.updated v).state = x.state := by
  cases ok
  · exact (updated_leaves v x).1
  · exact (updated_leaves v x).1

/-- While HALTED a frame keeps a section idle. -/
theorem idle_sectionFrame (k : Fin 4) {v : SectionView} (hmay : v.mayArm = false) {x : Section}
    (hx : x.state.idle = true) : (sectionFrame k v x).sec.state.idle = true :=
  idle_decideByState k hmay _ (by rwa [state_deciding])

/-- A frame leaves an OUT section OUT. -/
theorem out_sectionFrame (k : Fin 4) (v : SectionView) {x : Section} (hx : x.state = .out) :
    (sectionFrame k v x).sec.state = .out := by
  have hout := state_deciding v x (confirmNews v x (x.updated v)).openOk
  unfold sectionFrame
  dsimp only
  rw [decideByState_out k _ _ (hout.trans hx)]
  exact hout.trans hx

/-- While HALTED no section may arm (R101). -/
theorem mayArm_of_halted {s : State} (h : s.controller.run = .halted) (k : Fin 4) :
    (sectionView (raiseEpisode s) k).mayArm = false := by
  simp [sectionView, State.mayArm, h]

/-- The answer to a frame keeps both laws up to the deferred application. -/
theorem sectionLawsKept_recorded (s : State) : SectionLawsKept s (recorded s) := by
  obtain ⟨-, -, hloader, hcontroller⟩ := recorded_leaves s
  have hsec : ∀ k, ((recorded s).sec k).state = (moveOf s k).sec.state := fun k => by
    rw [State.sec, hcontroller, ← State.sec, sec_controllerWork]
  refine .of_sections (congrArg Loader.tables hloader) (by simp [hcontroller])
    (fun hhalted k hidle => ?_) fun k hout => ?_
  · rw [hsec]
    exact idle_sectionFrame k (mayArm_of_halted hhalted k) hidle
  · rw [hsec]
    exact out_sectionFrame k _ hout

/-- An accepted frame keeps both laws. -/
theorem sectionLawsKept_acceptFrame (c : StepClass) (f : SampleFrame) (s : State) :
    SectionLawsKept s (acceptFrame c f s) := by
  have hjudged : SectionLawsKept s (judgeFrame s.previous c (measureFrame c f s)) :=
    .of_stand (by simp) (by simp)
  rw [acceptFrame]
  generalize judgeFrame s.previous c (measureFrame c f s) = u at hjudged ⊢
  have hslot : SectionLawsKept u (beforeSlot u) := by
    rw [beforeSlot_eq]
    split
    · exact (sectionLawsKept_recorded u).trans (sectionLawsKept_deferredApply _)
    · exact sectionLawsKept_recorded u
  exact (hjudged.trans hslot).trans (.of_stand (by simp [answerFrame]) (by simp [answerFrame]))

/-- A SAMPLE frame keeps both laws. -/
theorem sectionLawsKept_sampleArrives (f : SampleFrame) (s : State) :
    SectionLawsKept s (sampleArrives f s) := by
  rcases sampleArrives_cases f s with h | ⟨c, -, h⟩ <;> rw [h]
  · exact .of_stand rfl rfl
  · exact sectionLawsKept_acceptFrame c f s

/-! ### The silence expiry (R7, R8) -/

/-- An expiry leaves an OUT section OUT, and an idle one idle (R100). -/
theorem state_silenced (x : Section) :
    (x.state = .out → x.silenced.state = .out) ∧
    (x.state.idle = true → x.silenced.state.idle = true) := by
  cases hactive : x.state.active with
  | true =>
    rw [(silenced_of_active hactive).1]
    refine ⟨fun hout => ?_, fun _ => rfl⟩
    rw [hout] at hactive
    cases hactive
  | false => rw [silenced_of_inactive hactive]; exact ⟨id, id⟩

/-- The blocks' work at an expiry in RUNNING keeps both laws. -/
theorem sectionLawsKept_blocksSilenced (s : State) : SectionLawsKept s (blocksSilenced s) := by
  obtain ⟨-, -, -, hsections, -⟩ := blocksSilenced_blocks s
  have hsec : ∀ k, (blocksSilenced s).sec k = (s.sec k).silenced := fun k => by
    rw [State.sec, hsections, Four.get_map, State.sec]
  refine .of_sections (by simp) (by simp) (fun _ k h => ?_) fun k h => ?_ <;> rw [hsec]
  · exact (state_silenced (s.sec k)).2 h
  · exact (state_silenced (s.sec k)).1 h

/-- The lowering of the signal keeps both laws (R107, R164). -/
theorem sectionLawsKept_lowerAndApply (s : State) : SectionLawsKept s (lowerAndApply s) := by
  have hlowered : SectionLawsKept s { s with controller := s.controller.lowered } := by
    have hsec : ∀ k, (State.sec { s with controller := s.controller.lowered } k).state =
        (s.sec k).state := fun k => by simp [State.sec, Controller.lowered, fullService]
    exact .of_sections rfl rfl (fun _ k h => by rwa [hsec]) fun k h => by rwa [hsec]
  unfold lowerAndApply
  split
  · exact hlowered.trans (sectionLawsKept_deferredApply _)
  · exact .of_stand rfl rfl

/-- A silence expiry keeps both laws. -/
theorem sectionLawsKept_silenceExpires (s : State) : SectionLawsKept s (silenceExpires s) := by
  have hrunning : SectionLawsKept s (expiryRunning s) := by
    have hlowered := (sectionLawsKept_blocksSilenced s).trans (sectionLawsKept_lowerAndApply _)
    unfold expiryRunning
    dsimp only
    split
    · exact hlowered.trans (.of_stand (by simp) (by simp))
    · exact hlowered
  unfold silenceExpires
  (repeat' split)
  · exact .of_stand rfl rfl
  · exact .of_stand rfl rfl
  · exact hrunning
  · exact .of_stand (by simp) (by simp)

/-! ### Requests -/

/-- An effect that keeps both laws. -/
def Effect.keepsSectionLaws (effect : Effect) : Prop := ∀ s : State, SectionLawsKept s (effect s).1

theorem onSection_keepsSectionLaws {effect : Fin 4 → Effect} (arg : Word)
    (h : ∀ k, (effect k).keepsSectionLaws) : (onSection arg effect).keepsSectionLaws := by
  intro s
  unfold onSection
  split
  · exact h _ s
  · exact .of_stand rfl rfl

theorem onTable_keepsSectionLaws {effect : TableId → Effect} (arg : Word)
    (h : ∀ t, (effect t).keepsSectionLaws) : (onTable arg effect).keepsSectionLaws := by
  intro s
  unfold onTable
  split
  · exact h _ s
  · exact .of_stand rfl rfl

/-- RUN leaves HALTED, and needs a configured engine (R79). -/
theorem runEffect_keepsSectionLaws : runEffect.keepsSectionLaws := by
  intro s
  unfold runEffect
  split
  · constructor
    · intro _ hhalted
      cases hhalted
    · exact fun hs => hs
  · exact .of_stand rfl rfl

/-- HALT leaves every section idle (R80). -/
theorem haltEffect_keepsSectionLaws : haltEffect.keepsSectionLaws := by
  intro s
  have hsec : ∀ k, (haltEffect s).1.sec k = (haltSection k (s.sec k)).sec := fun k => by
    simp [haltEffect, placeMoves, State.sec, sections_placeSections]
  refine .of_idle (by simp [haltEffect, placeMoves]) (fun k => ?_) fun k hout => ?_ <;> rw [hsec]
  · unfold haltSection
    cases h : (s.sec k).state <;> simp [Section.dropPending, Moved.quiet, h] <;> rfl
  · simp [haltSection, hout, Moved.quiet, Section.dropPending]

/-- RESTART leaves every section idle (R81). -/
theorem restartEffect_keepsSectionLaws : restartEffect.keepsSectionLaws := by
  intro s
  have hsec : ∀ k, ((restartEffect s).1.sec k).state = (s.sec k).restarted.state := by
    intro k
    have hsections : (restartEffect s).1.sec k = _ := get_sections_restarted s.controller k
    rw [hsections]
    rfl
  refine .of_idle (by simp [restartEffect, Loader.closed]) (fun k => ?_) fun k hout => ?_ <;> rw [hsec]
  · unfold Section.restarted
    cases h : (s.sec k).state <;> simp [Section.dropPending, h] <;> rfl
  · exact (restarted_of_other (.inl hout)).1.trans hout

/-- One section replaced. -/
theorem sectionLawsKept_withSection {s : State} {k : Fin 4} {x : Section}
    (hidle : (s.sec k).state.idle = true → x.state.idle = true)
    (hout : (s.sec k).state = .out → x.state = .out) : SectionLawsKept s (s.withSection k x) := by
  have hsec : ∀ j, (s.withSection k x).sec j = if k = j then x else s.sec j := fun j => by
    rw [State.sec, sections_withSection, Four.get_set, State.sec]
  refine .of_sections rfl rfl (fun _ j hj => ?_) fun j hj => ?_ <;> rw [hsec] <;> split
  · subst k
    exact hidle hj
  · exact hj
  · subst k
    exact hout hj
  · exact hj

/-- ARM_SECTION marks a section, and moves none (R101). -/
theorem armSectionEffect_keepsSectionLaws (k : Fin 4) : (armSectionEffect k).keepsSectionLaws := by
  intro s
  unfold armSectionEffect
  dsimp only
  split
  · exact sectionLawsKept_withSection id id
  · exact .of_stand rfl rfl

/-- DISARM_SECTION is refused in OUT, and keeps a section idle (R103). -/
theorem idle_disarmed {k : Fin 4} {x : Section} {m : Moved} (h : disarmed k x = some m) :
    x.state ≠ .out ∧ (x.state.idle = true → m.sec.state.idle = true) := by
  unfold disarmed at h
  split at h <;> cases h
  case h_1 hst | h_6 hst | h_7 hst => exact ⟨by simp [hst], id⟩
  case h_2 hst => exact ⟨by simp [hst], fun _ => rfl⟩
  case h_3 hst | h_4 hst | h_5 hst => exact ⟨by simp [hst], fun _ => rfl⟩

theorem disarmSectionEffect_keepsSectionLaws (k : Fin 4) :
    (disarmSectionEffect k).keepsSectionLaws := by
  intro s
  unfold disarmSectionEffect
  split
  · rename_i m hm
    obtain ⟨hnotOut, hidle⟩ := idle_disarmed hm
    exact (sectionLawsKept_withSection hidle fun hout => absurd hout hnotOut).trans
      (.of_stand (by simp) (by simp))
  · exact .of_stand rfl rfl

/-- CLEAR_FAULT sends a FAULT section to BYPASSED (R104). -/
theorem clearFaultEffect_keepsSectionLaws (k : Fin 4) : (clearFaultEffect k).keepsSectionLaws := by
  intro s
  unfold clearFaultEffect
  dsimp only
  split
  · rename_i hfault
    exact sectionLawsKept_withSection (fun _ => rfl) fun hout =>
      nomatch hfault.1.symm.trans hout
  · exact .of_stand rfl rfl

/-- COMMIT_TABLE applies a table, or leaves sections and tables in use (R161 to R163). -/
theorem commitTableEffect_keepsSectionLaws (table : Word) :
    (commitTableEffect table).keepsSectionLaws := by
  have hjudges : ∀ (t : TableId) (n : Nat), (judgeImage t n).keepsSectionLaws := by
    intro t n s
    unfold judgeImage placeImage
    dsimp only
    (repeat' split)
    · exact .of_stand rfl rfl
    · exact .of_stand rfl rfl
    · exact .of_stand rfl rfl
    · exact (sectionLawsKept_closeLoad s).trans (sectionLawsKept_applyTable t _ _)
  intro s
  unfold commitTableEffect
  (repeat' split)
  case h_1.isFalse.isFalse.isFalse => exact hjudges _ _ s
  all_goals exact .of_stand rfl rfl

/-- Every request's effect keeps both laws: all but COMMIT_TABLE leave the tables in use, and all but those
to the section controller leave its sections. -/
theorem keepsSectionLaws_of_isRequestEffect {effect : Effect} (he : IsRequestEffect effect) :
    effect.keepsSectionLaws := by
  have hstands : ∀ effect : Effect, effect.tablesStand →
      (∀ s, (effect s).1.controller = s.controller) → effect.keepsSectionLaws :=
    fun effect htables hcontroller s => .of_stand (htables s).tables (hcontroller s)
  cases he with
  | run => exact runEffect_keepsSectionLaws
  | halt => exact haltEffect_keepsSectionLaws
  | restart => exact restartEffect_keepsSectionLaws
  | armSection arg => exact onSection_keepsSectionLaws arg armSectionEffect_keepsSectionLaws
  | disarmSection arg => exact onSection_keepsSectionLaws arg disarmSectionEffect_keepsSectionLaws
  | clearFault arg => exact onSection_keepsSectionLaws arg clearFaultEffect_keepsSectionLaws
  | commitTable table => exact commitTableEffect_keepsSectionLaws table
  | unknown | readIdent | readStatus | clearLoadFlags => exact fun _ => .of_stand rfl rfl
  | readSection arg => exact onSection_keepsSectionLaws arg fun _ _ => .of_stand rfl rfl
  | readTable arg offset count =>
    refine onTable_keepsSectionLaws arg fun t =>
      hstands _ (readTableEffect_tablesStand offset count t) fun s => ?_
    unfold readTableEffect
    (repeat' split) <;> rfl
  | fetchRecord =>
    refine hstands _ fetchRecordEffect_tablesStand fun s => ?_
    unfold fetchRecordEffect
    split <;> rfl
  | discardRecord seq =>
    refine hstands _ (discardRecordEffect_tablesStand seq) fun s => ?_
    unfold discardRecordEffect
    (repeat' split) <;> rfl
  | beginLoad arg words =>
    refine onTable_keepsSectionLaws arg fun t =>
      hstands _ (beginLoadEffect_tablesStand words t) fun s => ?_
    unfold beginLoadEffect
    (repeat' split) <;> rfl
  | loadWords offset count data =>
    refine hstands _ (loadWordsEffect_tablesStand offset count data) fun s => ?_
    unfold loadWordsEffect
    (repeat' split) <;> rfl
  | dropLoad =>
    refine hstands _ dropLoadEffect_tablesStand fun s => ?_
    unfold dropLoadEffect
    split <;> rfl
  | lockTable arg level =>
    refine onTable_keepsSectionLaws arg fun t =>
      hstands _ (lockTableEffect_tablesStand level t) fun s => ?_
    unfold lockTableEffect
    split <;> rfl
  | unlockTable arg =>
    refine onTable_keepsSectionLaws arg fun t => hstands _ (unlockTableEffect_tablesStand t) fun s => ?_
    unfold unlockTableEffect
    split <;> rfl
  | setAlertMask marks =>
    refine hstands _ (setAlertMaskEffect_tablesStand marks) fun s => ?_
    unfold setAlertMaskEffect
    split <;> rfl
  | clearAlerts marks =>
    refine hstands _ (clearAlertsEffect_tablesStand marks) fun s => ?_
    unfold clearAlertsEffect
    split <;> rfl

/-- A MANAGE frame keeps both laws. -/
theorem sectionLawsKept_serve (r : Request) (s : State) :
    SectionLawsKept s (serve r (effectOf r) s) := by
  rcases serve_cases r (effectOf r) s with h | h | ⟨-, h⟩ <;> rw [h]
  · exact .of_stand rfl rfl
  · exact .of_stand rfl rfl
  · have hslotted : SectionLawsKept s (s.slotted r) := .of_stand rfl rfl
    have hqueued : ∀ (u : State) (parts : List AnswerPart), SectionLawsKept u (u.queued parts) :=
      fun _ _ => .of_stand rfl rfl
    rw [acceptRequest_of_effect rfl]
    exact (hslotted.trans
      (keepsSectionLaws_of_isRequestEffect (effectOf_isRequestEffect r) _)).trans (hqueued _ _)

/-! ### Every step -/

/-- Settles O57: frames, expiries and requests keep both laws, and the reset state has them. -/
theorem sectionLawsStay : Obligations.SectionLawsStay := by
  intro s t h
  obtain ⟨-, -, -, -, hidle, hout, -⟩ := reset_lawful
  constructor
  · simp only [haltedLawful_iff] at hidle ⊢
    exact fun hs => step_keeps (law := idleWhileHalted) (fun _ _ _ _ hs => hs) hidle
      (fun f s => (sectionLawsKept_sampleArrives f s).halted)
      (fun s => (sectionLawsKept_silenceExpires s).halted)
      (fun r s => (sectionLawsKept_serve r s).halted) hs h
  · simp only [unconfiguredLawful_iff] at hout ⊢
    exact fun hs => step_keeps (law := outWhileUnconfigured) (fun _ _ _ _ hs => hs) hout
      (fun f s => (sectionLawsKept_sampleArrives f s).unconfigured)
      (fun s => (sectionLawsKept_silenceExpires s).unconfigured)
      (fun r s => (sectionLawsKept_serve r s).unconfigured) hs h

end Sys2Proof.Machine
end

section
/-! PROOFS. The alert of a section's transition, with its cause, is reported, or one of the same kind of a
higher-numbered section is (R108, R179). -/

namespace Sys2Proof.Machine

/-! ### A section names itself in its alerts (R108) -/

/-- A move whose alerts with a cause are those of section k. -/
def Moved.raisesFor (k : Fin 4) (m : Moved) : Prop :=
  ∀ a ∈ m.alerts, a.1 ≠ .sectionDegraded → ∃ c, a = causeAlert a.1 k c

@[simp] theorem quiet_raisesFor (k : Fin 4) (x : Section) : (Moved.quiet x).raisesFor k := by
  simp [Moved.raisesFor, Moved.quiet]

@[simp] theorem silentMove_raisesFor (k : Fin 4) (x : Section) (os : List EntryOutcome) :
    (Moved.mk x [] os).raisesFor k := by
  simp [Moved.raisesFor]

@[simp] theorem causeMove_raisesFor (kind : AlertKind) (k : Fin 4) (c : Cause) (x : Section)
    (os : List EntryOutcome) : (Moved.mk x [causeAlert kind k c] os).raisesFor k := by
  intro a ha _
  rw [List.mem_singleton.1 ha]
  exact ⟨c, rfl⟩

@[simp] theorem degradedMove_raisesFor (k : Fin 4) (x : Section) (os : List EntryOutcome) :
    (Moved.mk x [degradedAlert k] os).raisesFor k := by
  intro a ha hne
  rw [List.mem_singleton.1 ha] at hne
  exact absurd rfl hne

@[simp] theorem enterFault_raisesFor (k : Fin 4) (c : Cause) (x : Section) :
    (enterFault k c x).raisesFor k := causeMove_raisesFor _ k c _ _

@[simp] theorem leaveToBypassed_raisesFor (k : Fin 4) (c : Cause) (e : Bool) (o : EntryOutcome)
    (x : Section) : (leaveToBypassed k c e o x).raisesFor k := causeMove_raisesFor _ k c _ _

@[simp] theorem leaveToReleasing_raisesFor (k : Fin 4) (c : Cause) (e : Bool) (o : EntryOutcome)
    (x : Section) : (leaveToReleasing k c e o x).raisesFor k := causeMove_raisesFor _ k c _ _

@[simp] theorem closeStuckFault_raisesFor (k : Fin 4) (x : Section) :
    (closeStuckFault k x).raisesFor k := causeMove_raisesFor _ k _ _ _

@[simp] theorem enterInjecting_raisesFor (k : Fin 4) (o : Band) (x : Section) :
    (enterInjecting k o x).raisesFor k := by
  unfold enterInjecting
  split <;> simp

theorem decideBypassed_raisesFor (k : Fin 4) (v : SectionView) (x : Section) :
    (decideBypassed v x).raisesFor k := by
  unfold decideBypassed
  (repeat' split) <;> simp

theorem decideArmed_raisesFor (k : Fin 4) (v : SectionView) (o : Bool) (x : Section) :
    (decideArmed k v o x).raisesFor k := by
  unfold decideArmed armedAtSagStart
  (repeat' split) <;> simp

theorem decideWatching_raisesFor (k : Fin 4) (v : SectionView) (o : Bool) (x : Section) :
    (decideWatching k v o x).raisesFor k := by
  unfold decideWatching
  (repeat' split) <;> simp

theorem openHazard_raisesFor {k : Fin 4} {v : SectionView} {a b : Bool} {x : Section} {m : Moved}
    (h : openHazard k v a b x = some m) : m.raisesFor k := by
  unfold openHazard at h
  (repeat' split at h) <;> cases h <;> simp

theorem decideInjecting_raisesFor (k : Fin 4) (v : SectionView) (a b : Bool) (x : Section) :
    (decideInjecting k v a b x).raisesFor k := by
  unfold decideInjecting injectingUnderOrders
  split
  · exact openHazard_raisesFor ‹_›
  · (repeat' split) <;> simp

theorem decideSlewing_raisesFor (k : Fin 4) (v : SectionView) (a b : Bool) (x : Section) :
    (decideSlewing k v a b x).raisesFor k := by
  unfold decideSlewing slewingAtSagStart
  split
  · exact openHazard_raisesFor ‹_›
  · (repeat' split) <;> simp

theorem decideClosing_raisesFor (k : Fin 4) (v : SectionView) (a b : Bool) (x : Section) :
    (decideClosing k v a b x).raisesFor k := by
  unfold decideClosing closedToArmed
  dsimp only
  (repeat' split) <;> simp

theorem decideReleasing_raisesFor (k : Fin 4) (a b : Bool) (x : Section) :
    (decideReleasing k a b x).raisesFor k := by
  unfold decideReleasing
  (repeat' split) <;> simp

theorem decideFault_raisesFor (k : Fin 4) (a b c : Bool) (x : Section) :
    (decideFault k a b c x).raisesFor k := by
  unfold decideFault
  (repeat' split) <;> simp

/-- The decision of R84 names its section. -/
theorem decideByState_raisesFor (k : Fin 4) (v : SectionView) (n : ConfirmNews) (x : Section) :
    (decideByState k v n x).raisesFor k := by
  unfold decideByState
  split
  · exact enterFault_raisesFor k _ x
  · split
    · exact quiet_raisesFor k x
    · exact decideBypassed_raisesFor k v x
    · exact decideArmed_raisesFor k v _ x
    · exact decideWatching_raisesFor k v _ x
    · exact decideInjecting_raisesFor k v _ _ x
    · exact decideSlewing_raisesFor k v _ _ x
    · exact decideClosing_raisesFor k v _ _ x
    · exact decideReleasing_raisesFor k _ _ x
    · exact decideFault_raisesFor k _ _ _ x

/-! ### Alerts raised in section order (R108, R179) -/

/-- After some raisings a flag stands as before, or with the payload of one of them. -/
theorem alerts_raiseAll_cases (kind : AlertKind) (as : List (AlertKind × Payload)) (s : State) :
    (s.raiseAll as).management.alerts.get kind = s.management.alerts.get kind ∨
    ∃ a ∈ as, a.1 = kind ∧ (s.raiseAll as).management.alerts.get kind = some a.2 := by
  induction as generalizing s with
  | nil => exact .inl rfl
  | cons a as ih =>
    have hrest : s.raiseAll (a :: as) = (s.raise a.1 a.2).raiseAll as := rfl
    rw [hrest]
    rcases ih (s.raise a.1 a.2) with hkept | ⟨b, hb, hkind, hset⟩
    · by_cases ha : a.1 = kind
      · subst ha
        exact .inr ⟨a, List.mem_cons_self, rfl, hkept.trans (PerKind.get_set_self _ _ _)⟩
      · exact .inl (hkept.trans (alerts_raise_of_ne s ha a.2))
    · exact .inr ⟨b, List.mem_cons_of_mem a hb, hkind, hset⟩

/-- A flag stands with the cause of section k, or with one of a higher-numbered section (R108). -/
def State.standsFrom (t : State) (kind : AlertKind) (k : Fin 4) (c : Cause) : Prop :=
  t.management.alerts.get kind = some (causeAlert kind k c).2 ∨
  ∃ j d, k < j ∧ t.management.alerts.get kind = some (causeAlert kind j d).2

/-- Whether it does depends on the flag alone. -/
theorem standsFrom_congr {s t : State} {kind : AlertKind}
    (h : t.management.alerts.get kind = s.management.alerts.get kind) {k : Fin 4} {c : Cause} :
    t.standsFrom kind k c ↔ s.standsFrom kind k c := by
  rw [State.standsFrom, State.standsFrom, h]

/-- Sections raise in section order: what section k has raised stands, or a higher section's does. -/
theorem standsFrom_raiseAll {m : Four Moved} {kind : AlertKind} {k : Fin 4} {c : Cause}
    (hkind : kind ≠ .sectionDegraded) (hm : ∀ j, (m.get j).raisesFor j)
    (hk : (m.get k).alerts = [causeAlert kind k c]) {ks : List (Fin 4)} (hrising : ks.Pairwise (· < ·))
    (hmem : k ∈ ks) (s : State) :
    (s.raiseAll (ks.flatMap fun j => (m.get j).alerts)).standsFrom kind k c := by
  induction ks generalizing s with
  | nil => cases hmem
  | cons i ks ih =>
    obtain ⟨habove, hrest⟩ := List.pairwise_cons.1 hrising
    have hsplit : s.raiseAll ((i :: ks).flatMap fun j => (m.get j).alerts) =
        (s.raiseAll (m.get i).alerts).raiseAll (ks.flatMap fun j => (m.get j).alerts) := by
      rw [List.flatMap_cons, State.raiseAll, List.foldl_append]
      rfl
    rw [hsplit]
    rcases List.mem_cons.1 hmem with rfl | hlater
    · rcases alerts_raiseAll_cases kind (ks.flatMap fun j => (m.get j).alerts)
        (s.raiseAll (m.get k).alerts) with hkept | ⟨a, ha, hsame, hset⟩
      · refine .inl (hkept.trans ?_)
        rw [hk]
        exact PerKind.get_set_self _ _ _
      · obtain ⟨j, hj, haj⟩ := List.mem_flatMap.1 ha
        obtain ⟨d, hd⟩ := hm j a haj (hsame ▸ hkind)
        rw [hsame] at hd
        exact .inr ⟨j, d, habove j hj, hset.trans (congrArg some (congrArg Prod.snd hd))⟩
    · exact ih hrest hlater _

/-- So they do when the sections of a frame, or of a request, are put in place. -/
theorem standsFrom_placeSections {m : Four Moved} {kind : AlertKind} {k : Fin 4} {c : Cause}
    (hkind : kind ≠ .sectionDegraded) (hm : ∀ j, (m.get j).raisesFor j)
    (hk : (m.get k).alerts = [causeAlert kind k c]) (s : State) :
    (placeSections m s).standsFrom kind k c := by
  have hall : m.i0.alerts ++ m.i1.alerts ++ m.i2.alerts ++ m.i3.alerts =
      four.flatMap fun j => (m.get j).alerts := by simp [four, Four.get]
  have hfour : k ∈ four := by
    match k with
    | 0 | 1 | 2 | 3 => decide
  rw [placeSections, hall]
  exact standsFrom_raiseAll hkind hm hk (by decide) hfour _

/-! ### What is reported (R179, R181) -/

/-- Reports with the cause of section k, or with one of a higher-numbered section. -/
theorem reportsFrom_of_reports {t : State} {kind : AlertKind} {k : Fin 4} {c : Cause}
    (h : t.reports kind (causeAlert kind k c).2 = true ∨
      ∃ j d, k < j ∧ t.reports kind (causeAlert kind j d).2 = true) :
    t.reportsFrom kind k c = true := by
  rw [State.reportsFrom, Bool.or_eq_true]
  refine h.imp_right fun ⟨j, d, hj, hreports⟩ => ?_
  have hfour : j ∈ four := by
    match j with
    | 0 | 1 | 2 | 3 => decide
  have hcauses : d ∈ causes := by cases d <;> decide
  exact List.any_eq_true.2 ⟨j, hfour, Bool.and_eq_true_iff.2
    ⟨decide_eq_true hj, List.any_eq_true.2 ⟨d, hcauses, hreports⟩⟩⟩

/-- A flag that stands is reported. -/
theorem reportsFrom_of_standsFrom {t : State} {kind : AlertKind} {k : Fin 4} {c : Cause}
    (h : t.standsFrom kind k c) : t.reportsFrom kind k c = true := by
  have hflag : ∀ p, t.management.alerts.get kind = some p → t.reports kind p = true := fun p hp => by
    simp [State.reports, hp]
  exact reportsFrom_of_reports (h.imp (hflag _) fun ⟨j, d, hj, hset⟩ => ⟨j, d, hj, hflag _ hset⟩)

/-- A flag that stands when the out slot is filled is reported afterwards (R181). -/
theorem reportsFrom_fillOutSlot {t : State} {kind : AlertKind} {k : Fin 4} {c : Cause}
    (h : t.standsFrom kind k c) : (fillOutSlot t).reportsFrom kind k c = true :=
  reportsFrom_of_reports
    (h.imp fillOutSlot_reports fun ⟨j, d, hj, hset⟩ => ⟨j, d, hj, fillOutSlot_reports hset⟩)

/-! ### The alerts of a frame's sections -/

/-- The decision of R84 on section k in a frame. -/
def decisionOf (c : StepClass) (f : SampleFrame) (s : State) (k : Fin 4) : Moved :=
  decideByState k (viewOf c f s k) (newsOf c f s k) (decidingOf c f s k)

/-- A section's move is its decision, but for the outcome NOT_ARMED (R83, R108). -/
theorem movedOf_eq_decisionOf (c : StepClass) (f : SampleFrame) (s : State) (k : Fin 4) :
    (movedOf c f s k).sec = (decisionOf c f s k).sec ∧
    (movedOf c f s k).alerts = (decisionOf c f s k).alerts := ⟨rfl, rfl⟩

/-- The flags of faults and releases at the out slot are those that the sections have left. -/
theorem alerts_beforeSlot_of_sections {kind : AlertKind}
    (hkind : kind = .sectionFault ∨ kind = .sectionReleased) (s : State) :
    (beforeSlot s).management.alerts.get kind =
      (placeSections (sectionFrames (raiseEpisode s)) (raiseEpisode s)).management.alerts.get kind := by
  have hne : kind ≠ .sagStart ∧ kind ≠ .episodeEnd ∧ kind ≠ .commitDone := by
    rcases hkind with rfl | rfl <;> decide
  obtain ⟨hstart, hend, hdone⟩ := hne
  have hcontroller : (controllerWork s).state.management =
      (placeSections (sectionFrames (raiseEpisode s)) (raiseEpisode s)).management := by
    unfold controllerWork
    dsimp only
    split <;> rfl
  have hrecorded : (recorded s).management.alerts.get kind =
      (controllerWork s).state.management.alerts.get kind := by
    rw [recorded, alerts_recordWork hstart hend]
    simp [answered]
  rw [← hcontroller, ← hrecorded, beforeSlot_eq]
  split
  · exact alerts_deferredApply hdone _
  · rfl

/-- The alert of a section's decision is reported at the end of the frame (R108, R181). -/
theorem reportsFrom_acceptedFrame {c : StepClass} {f : SampleFrame} {s : State} {k : Fin 4}
    {kind : AlertKind} {cause : Cause} (hkind : kind = .sectionFault ∨ kind = .sectionReleased)
    (h : (decisionOf c f s k).alerts = [causeAlert kind k cause]) :
    (fillOutSlot (atSlot c f s)).reportsFrom kind k cause = true := by
  have hne : kind ≠ .sectionDegraded := by rcases hkind with rfl | rfl <;> decide
  refine reportsFrom_fillOutSlot ((standsFrom_congr (alerts_beforeSlot_of_sections hkind _)).2
    (standsFrom_placeSections hne (fun j => ?_) ?_ _))
  · rw [get_sectionFrames_judged]
    exact decideByState_raisesFor j _ _ _
  · rw [get_sectionFrames_judged]
    exact h

end Sys2Proof.Machine
end

section
/-! PROOFS. One section in an accepted frame: what it reads, what its updates find, and its decision by the
state it holds (R83 to R89, R97 to R99). -/

namespace Sys2Proof.Machine

/-! ### What a section reads in a frame (R83) -/

/-- The engine as the controller finds it: tables, front end and run state as before or as measured. -/
theorem decided_leaves (c : StepClass) (f : SampleFrame) (s : State) :
    (decided c f s).loader = s.loader ∧ (decided c f s).front = (measured c f s).front ∧
    (decided c f s).store = (judged c f s).store ∧ (decided c f s).demand = (judged c f s).demand ∧
    (decided c f s).tracker = (judged c f s).tracker ∧
    (decided c f s).detector = (judged c f s).detector ∧
    (decided c f s).controller.run = s.controller.run := by
  simp [decided, judged, measured]

/-- Section k's fields of the Section Table are those of the table in use. -/
theorem sectionFields_decided (c : StepClass) (f : SampleFrame) (s : State) (k : Fin 4) :
    (decided c f s).filterLength k = s.filterLength k ∧
    (decided c f s).openTimeout k = s.openTimeout k ∧
    (decided c f s).closeTimeout k = s.closeTimeout k ∧
    (decided c f s).classOf k = s.classOf k ∧ (decided c f s).autoRearm k = s.autoRearm k ∧
    (decided c f s).currentLimit k = s.currentLimit k ∧ (judged c f s).classOf k = s.classOf k := by
  obtain ⟨hloader, -⟩ := decided_leaves c f s
  obtain ⟨-, -, hjudged⟩ := loader_stages c f s
  have hvalid : (decided c f s).valid = s.valid := by
    funext t
    rw [State.valid, State.valid, State.image, State.image, hloader]
  simp only [State.filterLength, State.openTimeout, State.closeTimeout, State.classOf, State.autoRearm,
    State.currentLimit, State.secField, field_congr hloader, field_congr hjudged, hvalid, and_self]

/-- The driver's bits, the gap and the timeouts of a frame, as section k reads them. -/
theorem viewOf_items (c : StepClass) (f : SampleFrame) (s : State) (k : Fin 4) :
    (viewOf c f s k).status = driverStatus f.status k ∧ (viewOf c f s k).gap = c.gap ∧
    (viewOf c f s k).filterLen = s.filterLength k ∧
    (viewOf c f s k).openTimeout = s.openTimeout k ∧
    (viewOf c f s k).closeTimeout = s.closeTimeout k ∧
    (viewOf c f s k).autoRearm = s.autoRearm k ∧
    (viewOf c f s k).order = (judged c f s).orderOf k ∧
    (viewOf c f s k).isOver = (decided c f s).overLimit k := by
  obtain ⟨-, hfront, hstore, -⟩ := decided_leaves c f s
  obtain ⟨hfilter, hopen, hclose, hclass, hrearm, -, hjudged⟩ := sectionFields_decided c f s k
  refine ⟨?_, ?_, hfilter, hopen, hclose, hrearm, ?_, rfl⟩
  · simp only [viewOf, sectionView, hfront]
    exact Four.get_build _ k
  · simp only [viewOf, sectionView, hfront]
    rfl
  · simp only [viewOf, sectionView, State.orderOf, hstore, hclass, hjudged]

/-- Sag, demand and boundary of a configured frame, as section k reads them (R83). -/
theorem viewOf_marks {c : StepClass} {f : SampleFrame} {s : State} (h : s.configured = true)
    (k : Fin 4) :
    (viewOf c f s k).inSag = (judged c f s).detector.inSag ∧
    (viewOf c f s k).needed = ((judged c f s).demand.get k).needed ∧
    (viewOf c f s k).boundary = (judged c f s).tracker.marks.boundary := by
  obtain ⟨hloader, -, -, hdemand, htracker, hdetector, -⟩ := decided_leaves c f s
  have hconf := (configured_inService_congr (congrArg Loader.tables hloader)).1.trans h
  simp only [viewOf, sectionView, hconf, Bool.true_and, hdemand, htracker, hdetector, and_self]

/-- The arming conditions other than the accepted feedback, in a configured frame without a sag start
(R101). -/
theorem viewOf_mayArm {c : StepClass} {f : SampleFrame} {s : State} (h : s.configured = true)
    (hstart : (judged c f s).detector.sagStart = false) (k : Fin 4) :
    (viewOf c f s k).mayArm = true ↔ s.controller.run = .running ∧ s.controller.episode = false ∧
      (judged c f s).tracker.lock = .locked ∧
      (judged c f s).store.ready.get (s.classOf k) = true ∧ (viewOf c f s k).status.ready = true := by
  obtain ⟨hloader, -, hstore, -, htracker, -, hrun⟩ := decided_leaves c f s
  obtain ⟨-, -, -, hclass, -⟩ := sectionFields_decided c f s k
  have hconf := (configured_inService_congr (congrArg Loader.tables hloader)).1.trans h
  have hnone : (judged c f s).sagStarts = false := by rw [State.sagStarts, hstart, Bool.and_false]
  have hkept : (judged c f s).controller = s.controller := by simp [judged, measured]
  have hepisode : (decided c f s).controller.episode = s.controller.episode := by
    simp [decided, raiseEpisode, hnone, hkept]
  simp only [viewOf, sectionView, State.mayArm, hconf, hrun, hepisode, htracker, hstore, hclass]
  simp [and_assoc]

/-! ### The updates before the decision (R83, R85, R86, R99) -/

/-- The feedback filter (R85). -/
theorem filtered_cases (len : Nat) (report : Position) (x : Section) :
    (report = x.feedback → (x.filtered len report).feedback = x.feedback ∧
      (x.filtered len report).filterCount = 0) ∧
    (report ≠ x.feedback → x.filterCount + 1 < len → (x.filtered len report).feedback = x.feedback ∧
      (x.filtered len report).filterCount = x.filterCount + 1) ∧
    (report ≠ x.feedback → len ≤ x.filterCount + 1 → (x.filtered len report).feedback = report ∧
      (x.filtered len report).filterCount = 0) := by
  unfold Section.filtered
  refine ⟨fun hsame => ?_, fun hnew hshort => ?_, fun hnew hlong => ?_⟩
  · rw [if_pos hsame]
    exact ⟨rfl, rfl⟩
  · rw [if_neg hnew, if_neg (Nat.not_le.2 hshort)]
    exact ⟨rfl, rfl⟩
  · rw [if_neg hnew, if_pos hlong]
    exact ⟨rfl, rfl⟩

/-- The updates leave feedback and filter count as the filter does. -/
theorem filter_updated (v : SectionView) (x : Section) :
    (x.updated v).feedback = (x.filtered v.filterLen v.status.position).feedback ∧
    (x.updated v).filterCount = (x.filtered v.filterLen v.status.position).filterCount := by
  unfold Section.updated Section.counted Section.timed
  dsimp only
  (repeat' split) <;> exact ⟨rfl, rfl⟩

/-- The timer of a confirm past its first commanding frame (R86). -/
theorem confirmTimer_updated {v : SectionView} {x : Section} (hconfirm : x.confirm ≠ .none)
    (hfresh : x.confirmFresh = false) :
    (x.updated v).confirmTimer = min 64 (x.confirmTimer + v.gap + 1) := by
  have hkept : (x.filtered v.filterLen v.status.position).confirm = x.confirm ∧
      (x.filtered v.filterLen v.status.position).confirmFresh = x.confirmFresh ∧
      (x.filtered v.filterLen v.status.position).confirmTimer = x.confirmTimer := by
    unfold Section.filtered
    (repeat' split) <;> exact ⟨rfl, rfl, rfl⟩
  obtain ⟨hc, hf, ht⟩ := hkept
  simp [Section.updated, Section.counted, Section.timed, hc, hf, ht, hconfirm, hfresh]

/-- The overcurrent count of a section that carries load current (R99). -/
theorem overCount_updated {v : SectionView} {x : Section} (hcarrying : x.state.carrying = true)
    (hover : v.isOver = true) : (x.updated v).overCount = x.overCount + 1 := by
  have hkept : ((x.filtered v.filterLen v.status.position).timed v.gap).state = x.state ∧
      ((x.filtered v.filterLen v.status.position).timed v.gap).overCount = x.overCount := by
    unfold Section.timed Section.filtered
    (repeat' split) <;> exact ⟨rfl, rfl⟩
  obtain ⟨hstate, hcount⟩ := hkept
  simp [Section.updated, Section.counted, hstate, hcount, hcarrying, hover]

/-! ### The section as its decision finds it (R83, R87) -/

/-- All but the OPEN confirm that has succeeded is as the updates leave it. -/
theorem decidingOf_items (c : StepClass) (f : SampleFrame) (s : State) (k : Fin 4) :
    (decidingOf c f s k).pendingReq = (s.sec k).pendingReq ∧
    (decidingOf c f s k).eligible = (s.sec k).eligible ∧
    (decidingOf c f s k).hold = (s.sec k).hold ∧
    (decidingOf c f s k).lastLeave = (s.sec k).lastLeave ∧
    (decidingOf c f s k).faultCause = (s.sec k).faultCause ∧
    (decidingOf c f s k).feedback = (updatedOf c f s k).feedback := by
  unfold decidingOf
  split <;> simp [updatedOf, Section.endConfirm]

/-- Without an OPEN confirm the section is as the updates leave it. -/
theorem decidingOf_of_notOpening {c : StepClass} {f : SampleFrame} {s : State} {k : Fin 4}
    (h : (s.sec k).confirm ≠ .opening) : decidingOf c f s k = updatedOf c f s k := by
  have hnot : (newsOf c f s k).openOk = false := by
    simp [newsOf, confirmNews, h]
  simp [decidingOf, hnot]

/-- The confirm is the one at the start of the frame, unless it is an OPEN confirm that has succeeded. -/
theorem confirm_decidingOf_of_notOpening {c : StepClass} {f : SampleFrame} {s : State} {k : Fin 4}
    (h : (s.sec k).confirm ≠ .opening) : (decidingOf c f s k).confirm = (s.sec k).confirm := by
  rw [decidingOf_of_notOpening h]
  simp [updatedOf]

/-! ### The decision by state (R84) -/

/-- Without a bridge fault each state decides by its own entries (R84). -/
theorem decisionOf_bypassed {c : StepClass} {f : SampleFrame} {s : State} {k : Fin 4}
    (hbridge : (viewOf c f s k).status.bridgeFault = false) (h : (s.sec k).state = .bypassed) :
    decisionOf c f s k = decideBypassed (viewOf c f s k) (decidingOf c f s k) := by
  simp [decisionOf, decideByState, bridgeFaultDue, hbridge, h]

theorem decisionOf_armed {c : StepClass} {f : SampleFrame} {s : State} {k : Fin 4}
    (hbridge : (viewOf c f s k).status.bridgeFault = false) (h : (s.sec k).state = .armed) :
    decisionOf c f s k =
      decideArmed k (viewOf c f s k) (newsOf c f s k).turnedOpen (decidingOf c f s k) := by
  simp [decisionOf, decideByState, bridgeFaultDue, hbridge, h]

theorem decisionOf_watching {c : StepClass} {f : SampleFrame} {s : State} {k : Fin 4}
    (hbridge : (viewOf c f s k).status.bridgeFault = false) (h : (s.sec k).state = .watching) :
    decisionOf c f s k =
      decideWatching k (viewOf c f s k) (newsOf c f s k).turnedOpen (decidingOf c f s k) := by
  simp [decisionOf, decideByState, bridgeFaultDue, hbridge, h]

theorem decisionOf_injecting {c : StepClass} {f : SampleFrame} {s : State} {k : Fin 4}
    (hbridge : (viewOf c f s k).status.bridgeFault = false) (h : (s.sec k).state = .injecting) :
    decisionOf c f s k = decideInjecting k (viewOf c f s k) (newsOf c f s k).openTimesOut
      (newsOf c f s k).turnedClosed (decidingOf c f s k) := by
  simp [decisionOf, decideByState, bridgeFaultDue, hbridge, h]

theorem decisionOf_slewing {c : StepClass} {f : SampleFrame} {s : State} {k : Fin 4}
    (hbridge : (viewOf c f s k).status.bridgeFault = false)
    (h : (s.sec k).state = .returningSlewing) :
    decisionOf c f s k = decideSlewing k (viewOf c f s k) (newsOf c f s k).openTimesOut
      (newsOf c f s k).turnedClosed (decidingOf c f s k) := by
  simp [decisionOf, decideByState, bridgeFaultDue, hbridge, h]

theorem decisionOf_closing {c : StepClass} {f : SampleFrame} {s : State} {k : Fin 4}
    (hbridge : (viewOf c f s k).status.bridgeFault = false)
    (h : (s.sec k).state = .returningClosing) :
    decisionOf c f s k = decideClosing k (viewOf c f s k) (newsOf c f s k).closeTimesOut
      (newsOf c f s k).closeOk (decidingOf c f s k) := by
  simp [decisionOf, decideByState, bridgeFaultDue, hbridge, h]

theorem decisionOf_releasing {c : StepClass} {f : SampleFrame} {s : State} {k : Fin 4}
    (hbridge : (viewOf c f s k).status.bridgeFault = false) (h : (s.sec k).state = .releasing) :
    decisionOf c f s k = decideReleasing k (newsOf c f s k).closeTimesOut (newsOf c f s k).closeOk
      (decidingOf c f s k) := by
  simp [decisionOf, decideByState, bridgeFaultDue, hbridge, h]

theorem decisionOf_fault {c : StepClass} {f : SampleFrame} {s : State} {k : Fin 4}
    (hbridge : (viewOf c f s k).status.bridgeFault = false) (h : (s.sec k).state = .fault) :
    decisionOf c f s k = decideFault k (newsOf c f s k).turnedOpen (newsOf c f s k).closeTimesOut
      (newsOf c f s k).closeOk (decidingOf c f s k) := by
  simp [decisionOf, decideByState, bridgeFaultDue, hbridge, h]

/-- A hazard decides a section whose bypass is commanded open (R84). -/
theorem decisionOf_of_hazard {c : StepClass} {f : SampleFrame} {s : State} {k : Fin 4} {m : Moved}
    (hbridge : (viewOf c f s k).status.bridgeFault = false)
    (h : (s.sec k).state = .injecting ∨ (s.sec k).state = .returningSlewing)
    (hm : openHazard k (viewOf c f s k) (newsOf c f s k).openTimesOut (newsOf c f s k).turnedClosed
      (decidingOf c f s k) = some m) : decisionOf c f s k = m := by
  rcases h with h | h
  · rw [decisionOf_injecting hbridge h, decideInjecting, hm]
  · rw [decisionOf_slewing hbridge h, decideSlewing, hm]

/-! ### The section at the end of the frame -/

/-- At the end of a frame that applies no table a section is as decided, but for its service level (R107). -/
theorem sec_acceptedFrame_of_decision {c : StepClass} {f : SampleFrame} {s : State}
    (h : noPending s = true ∨ endsIn c f s = false) (k : Fin 4) :
    ∃ service, (fillOutSlot (atSlot c f s)).sec k =
      { (decisionOf c f s k).sec with service := service } :=
  ⟨_, sec_acceptedFrame h k⟩

/-- While the episode goes on a section ends the frame as decided. -/
theorem sec_acceptedFrame_of_up {c : StepClass} {f : SampleFrame} {s : State}
    (h : endsIn c f s = false) (k : Fin 4) :
    (fillOutSlot (atSlot c f s)).sec k = (decisionOf c f s k).sec := by
  rw [sec_acceptedFrame (.inr h) k, h]
  rfl

/-- A section whose decision holds the episode ends the frame as decided. -/
theorem sec_acceptedFrame_of_holding {c : StepClass} {f : SampleFrame} {s : State} {k : Fin 4}
    (h : (decisionOf c f s k).sec.state.holdsEpisode = true) :
    (fillOutSlot (atSlot c f s)).sec k = (decisionOf c f s k).sec :=
  sec_acceptedFrame_of_holdsEpisode h

/-- A section that enters FAULT in a frame ends it so, and is reported (R105, R108). -/
theorem fault_acceptedFrame {c : StepClass} {f : SampleFrame} {s : State} {k : Fin 4} {cause : Cause}
    {x : Section} (hpend : noPending s = true) (h : decisionOf c f s k = enterFault k cause x) :
    ((fillOutSlot (atSlot c f s)).sec k).state = .fault ∧
    ((fillOutSlot (atSlot c f s)).sec k).faultCause = some cause ∧
    ((fillOutSlot (atSlot c f s)).sec k).confirm = .closing ∧
    ((fillOutSlot (atSlot c f s)).sec k).closeSeen = false ∧
    ((fillOutSlot (atSlot c f s)).sec k).eligible = false ∧
    (fillOutSlot (atSlot c f s)).reportsFrom .sectionFault k cause = true := by
  obtain ⟨service, hsec⟩ := sec_acceptedFrame_of_decision (c := c) (f := f) (.inl hpend) k
  obtain ⟨hstate, hcause, hseen, heligible, -, hconfirm, -⟩ := enterFault_sec k cause x
  rw [hsec, h]
  exact ⟨hstate, hcause, hconfirm, hseen, heligible,
    reportsFrom_acceptedFrame (.inl rfl) (by rw [h]; rfl)⟩

/-- A section that leaves for BYPASSED in a frame. -/
theorem leaveToBypassed_items (k : Fin 4) (cause : Cause) (eligible : Bool) (o : EntryOutcome)
    (x : Section) :
    (leaveToBypassed k cause eligible o x).sec.state = .bypassed ∧
    (leaveToBypassed k cause eligible o x).sec.lastLeave = cause ∧
    (leaveToBypassed k cause eligible o x).sec.eligible = eligible ∧
    (leaveToBypassed k cause eligible o x).sec.pendingReq = .none ∧
    (leaveToBypassed k cause eligible o x).alerts = [causeAlert .sectionReleased k cause] :=
  ⟨rfl, rfl, rfl, rfl, rfl⟩

/-- A section that leaves for RELEASING in a frame. -/
theorem leaveToReleasing_items (k : Fin 4) (cause : Cause) (eligible : Bool) (o : EntryOutcome)
    (x : Section) :
    (leaveToReleasing k cause eligible o x).sec.state = .releasing ∧
    (leaveToReleasing k cause eligible o x).sec.lastLeave = cause ∧
    (leaveToReleasing k cause eligible o x).sec.eligible = eligible ∧
    (leaveToReleasing k cause eligible o x).sec.confirm = .closing ∧
    (leaveToReleasing k cause eligible o x).sec.overCount = 0 ∧
    (leaveToReleasing k cause eligible o x).alerts = [causeAlert .sectionReleased k cause] :=
  ⟨rfl, rfl, rfl, (closeInFrame_leaves x).1, rfl, rfl⟩

/-- A section that enters INJECTING is at FULL service exactly when its class is in SERVE and it was at FULL
(R90); its confirm stands. -/
theorem enterInjecting_items (k : Fin 4) (order : Band) (x : Section) :
    (enterInjecting k order x).sec.state = .injecting ∧
    (enterInjecting k order x).sec.confirm = x.confirm ∧
    (enterInjecting k order x).sec.confirmTimer = x.confirmTimer ∧
    ((enterInjecting k order x).sec.service = .full ↔ order = .serve ∧ x.service = .full) := by
  unfold enterInjecting entryService
  by_cases h : order = .serve ∧ x.service = .full
  · simp [h]
  · simp [h]

/-! ### Driver status bits (R97, R98) -/

/-- Settles O32: a bridge fault comes before every other entry, and a driver that is not ready before all but
that one. -/
theorem driverStatusBits : Obligations.DriverStatusBits := by
  intro c f s k hacc hpend
  obtain ⟨hstatus, -⟩ := viewOf_items c f s k
  refine ⟨_, exec_sampleFrame_of_accepted hacc, fun hbit hout hfault => ?bridge,
    fun hbit hready => ⟨fun hwaiting => ?waiting, fun hcarrying => ?carrying⟩⟩
  case bridge =>
    have hbridge : (viewOf c f s k).status.bridgeFault = true := by rw [hstatus]; exact hbit
    exact fault_acceptedFrame hpend (decideByState_bridge k _ hbridge (by simpa using hout)
      (by simpa using hfault))
  case waiting =>
    have hbridge : (viewOf c f s k).status.bridgeFault = false := by rw [hstatus]; exact hbit
    have hnotReady : (viewOf c f s k).status.ready = false := by rw [hstatus]; exact hready
    have hdecision : decisionOf c f s k = leaveToBypassed k .notReady (decidingOf c f s k).eligible
        .fault (decidingOf c f s k) := by
      rcases hwaiting with h | h
      · simp [decisionOf_armed hbridge h, decideArmed, hnotReady]
      · simp [decisionOf_watching hbridge h, decideWatching, hnotReady]
    obtain ⟨service, hsec⟩ := sec_acceptedFrame_of_decision (c := c) (f := f) (.inl hpend) k
    obtain ⟨-, heligible, -⟩ := decidingOf_items c f s k
    rw [hsec, hdecision]
    exact ⟨rfl, rfl, heligible, reportsFrom_acceptedFrame (.inr rfl) (by rw [hdecision]; rfl)⟩
  case carrying =>
    have hbridge : (viewOf c f s k).status.bridgeFault = false := by rw [hstatus]; exact hbit
    have hnotReady : (viewOf c f s k).status.ready = false := by rw [hstatus]; exact hready
    have hhazard : openHazard k (viewOf c f s k) (newsOf c f s k).openTimesOut
        (newsOf c f s k).turnedClosed (decidingOf c f s k) =
        some (enterFault k .notReady (decidingOf c f s k)) := by
      simp [openHazard, hnotReady]
    have hdecision : decisionOf c f s k = enterFault k .notReady (decidingOf c f s k) := by
      cases hstate : (s.sec k).state with
      | injecting => exact decisionOf_of_hazard hbridge (.inl hstate) hhazard
      | returningSlewing => exact decisionOf_of_hazard hbridge (.inr hstate) hhazard
      | returningClosing => simp [decisionOf_closing hbridge hstate, decideClosing, hnotReady]
      | out | bypassed | armed | watching | releasing | fault =>
        rw [hstate] at hcarrying
        cases hcarrying
    obtain ⟨hfault, hcause, hconfirm, -, -, hreported⟩ := fault_acceptedFrame hpend hdecision
    exact ⟨hfault, hcause, hconfirm, hreported⟩

end Sys2Proof.Machine
end

section
/-! PROOFS. The feedback filter, the confirms of bypass movements and the overcurrent count of a section in
an accepted frame (R85 to R89, R99). -/

namespace Sys2Proof.Machine

/-! ### The feedback filter at the end of every frame (R85) -/

/-- No table touches the feedback filter (R78). -/
theorem Section.Tabled.filter {x y : Section} (h : x.Tabled y) :
    y.feedback = x.feedback ∧ y.filterCount = x.filterCount := by
  cases h with
  | stands => exact ⟨rfl, rfl⟩
  | joins => exact ⟨rfl, rfl⟩
  | leaves => exact ⟨rfl, rfl⟩

/-- Accepted feedback and filter count at the end of a frame are those of the section's updates (R83). -/
theorem filter_acceptedFrame (c : StepClass) (f : SampleFrame) (s : State) (k : Fin 4) :
    ((fillOutSlot (atSlot c f s)).sec k).feedback = (updatedOf c f s k).feedback ∧
    ((fillOutSlot (atSlot c f s)).sec k).filterCount = (updatedOf c f s k).filterCount := by
  obtain ⟨-, -, -, hcontroller⟩ := recorded_leaves (judged c f s)
  have hdeciding : (decidingOf c f s k).feedback = (updatedOf c f s k).feedback ∧
      (decidingOf c f s k).filterCount = (updatedOf c f s k).filterCount := by
    unfold decidingOf
    split <;> simp
  have hmove : moveOf (judged c f s) k = movedOf c f s k :=
    (get_sectionFrames _ k).symm.trans (get_sectionFrames_judged c f s k)
  have hrecorded : ((recorded (judged c f s)).sec k).feedback = (updatedOf c f s k).feedback ∧
      ((recorded (judged c f s)).sec k).filterCount = (updatedOf c f s k).filterCount := by
    obtain ⟨hfeedback, hcount, -⟩ := decideByState_leaves k (viewOf c f s k) (newsOf c f s k)
      (decidingOf c f s k)
    rw [State.sec, hcontroller, ← State.sec, sec_controllerWork, hmove]
    exact ⟨hfeedback.trans hdeciding.1, hcount.trans hdeciding.2⟩
  have hslot : (fillOutSlot (atSlot c f s)).sec k = (beforeSlot (judged c f s)).sec k := by
    simp only [State.sec, fillOutSlot_leaves, atSlot]
  rw [hslot, beforeSlot_eq]
  split
  · obtain ⟨hfeedback, hcount⟩ := (tabled_deferredApply (recorded (judged c f s)) k).filter
    exact ⟨hfeedback.trans hrecorded.1, hcount.trans hrecorded.2⟩
  · exact hrecorded

/-! ### Accepted feedback that changes in a frame (R89) -/

/-- The accepted feedback becomes OPEN in the frame. -/
theorem turnedOpen_iff (c : StepClass) (f : SampleFrame) (s : State) (k : Fin 4) :
    (newsOf c f s k).turnedOpen = true ↔
      (s.sec k).feedback = .closed ∧ (updatedOf c f s k).feedback = .opened := by
  simp [newsOf, confirmNews]

/-- The accepted feedback becomes CLOSED in the frame. -/
theorem turnedClosed_iff (c : StepClass) (f : SampleFrame) (s : State) (k : Fin 4) :
    (newsOf c f s k).turnedClosed = true ↔
      (s.sec k).feedback = .opened ∧ (updatedOf c f s k).feedback = .closed := by
  simp [newsOf, confirmNews]

/-- Feedback that becomes CLOSED is no success of an OPEN confirm: the confirm is that of the frame's
start. -/
theorem uncommandedClose_decidingOf (c : StepClass) (f : SampleFrame) (s : State) (k : Fin 4) :
    ((newsOf c f s k).turnedClosed && (decidingOf c f s k).confirm != .opening) =
      ((newsOf c f s k).turnedClosed && (s.sec k).confirm != .opening) := by
  cases hturned : (newsOf c f s k).turnedClosed with
  | false => rfl
  | true =>
    obtain ⟨-, hclosed⟩ := (turnedClosed_iff c f s k).1 hturned
    have hnot : (newsOf c f s k).openOk = false := by
      simp only [updatedOf] at hclosed
      simp [newsOf, confirmNews, updatedOf, hclosed]
    simp [decidingOf, hnot, updatedOf]

/-- Settles O25: the filter by its three cases; a bypass that moves without command by the entry of R84 that
its state has for it. -/
theorem feedbackFilter : Obligations.FeedbackFilter := by
  refine ⟨fun c f s hacc => ⟨_, exec_sampleFrame_of_accepted hacc, fun k => ?filter⟩,
    fun c f s k hacc hpend hbridge => ⟨_, exec_sampleFrame_of_accepted hacc,
      fun hclosed hopened => ⟨fun hstate => ?stays, fun hready hstate => ?opens⟩,
      fun hopened hclosed hready hconfirm hstate => ?closes⟩⟩
  case filter =>
    intro report length
    obtain ⟨hstatus, -, hlength, -⟩ := viewOf_items c f s k
    obtain ⟨hfeedback, hcount⟩ := filter_acceptedFrame c f s k
    obtain ⟨hupdated, hupdatedCount⟩ := filter_updated (viewOf c f s k) (s.sec k)
    rw [hfeedback, hcount, updatedOf, hupdated, hupdatedCount, hstatus, hlength]
    exact filtered_cases length report (s.sec k)
  case stays =>
    have hfeedback : (decidingOf c f s k).feedback = .opened := by
      obtain ⟨-, -, -, -, -, hdeciding⟩ := decidingOf_items c f s k
      rw [hdeciding, ← (filter_acceptedFrame c f s k).1, hopened]
    have hdecision : (decisionOf c f s k).sec.state = (s.sec k).state := by
      rcases hstate with h | h
      · rw [decisionOf_bypassed hbridge h, state_decideBypassed_of_mayNotArm (by simp [hfeedback])]
        simp
      · rw [decisionOf, decideByState_out k _ _ (by simpa using h)]
        simp [Moved.quiet]
    obtain ⟨service, hsec⟩ := sec_acceptedFrame_of_decision (c := c) (f := f) (.inl hpend) k
    rw [hsec]
    exact hdecision
  case opens =>
    have hturned : (newsOf c f s k).turnedOpen = true :=
      (turnedOpen_iff c f s k).2 ⟨hclosed, (filter_acceptedFrame c f s k).1.symm.trans hopened⟩
    refine fault_acceptedFrame (x := decidingOf c f s k) hpend ?_
    rcases hstate with h | h
    · simp [decisionOf_armed hbridge h, decideArmed, hready, hturned]
    · simp [decisionOf_watching hbridge h, decideWatching, hready, hturned]
  case closes =>
    have hturned : (newsOf c f s k).turnedClosed = true :=
      (turnedClosed_iff c f s k).2 ⟨hopened, (filter_acceptedFrame c f s k).1.symm.trans hclosed⟩
    have huncommanded :
        ((newsOf c f s k).turnedClosed && (decidingOf c f s k).confirm != .opening) = true := by
      rw [uncommandedClose_decidingOf, hturned]
      simp [hconfirm]
    have hnoOpen : (newsOf c f s k).openTimesOut = false := by
      simp [newsOf, confirmNews, hconfirm]
    refine fault_acceptedFrame (x := decidingOf c f s k) hpend (decisionOf_of_hazard hbridge hstate ?_)
    rw [openHazard, hready, hnoOpen, huncommanded]
    rfl

/-! ### Confirms of bypass movements (R86 to R88) -/

/-- An OPEN confirm past its first commanding frame succeeds with the feedback OPEN and count 0 (R87). -/
theorem openOk_iff {c : StepClass} {f : SampleFrame} {s : State} {k : Fin 4}
    (hconfirm : (s.sec k).confirm = .opening) (hfresh : (s.sec k).confirmFresh = false) :
    (newsOf c f s k).openOk = true ↔
      (updatedOf c f s k).feedback = .opened ∧ (updatedOf c f s k).filterCount = 0 := by
  simp [newsOf, confirmNews, hconfirm, hfresh]

/-- Otherwise it times out when its timer reaches open_timeout (R86). -/
theorem openTimesOut_iff {c : StepClass} {f : SampleFrame} {s : State} {k : Fin 4}
    (hconfirm : (s.sec k).confirm = .opening) (hfresh : (s.sec k).confirmFresh = false) :
    (newsOf c f s k).openTimesOut = true ↔
      ¬((updatedOf c f s k).feedback = .opened ∧ (updatedOf c f s k).filterCount = 0) ∧
      s.openTimeout k ≤ min 64 ((s.sec k).confirmTimer + c.gap + 1) := by
  obtain ⟨-, hgap, -, htimeout, -⟩ := viewOf_items c f s k
  have htimer : (updatedOf c f s k).confirmTimer = min 64 ((s.sec k).confirmTimer + c.gap + 1) := by
    rw [updatedOf, confirmTimer_updated (by simp [hconfirm]) hfresh, hgap]
  have hnews : (newsOf c f s k).openTimesOut = ((s.sec k).confirm != .none && !(s.sec k).confirmFresh
      && (s.sec k).confirm == .opening && !(newsOf c f s k).openOk
      && decide ((viewOf c f s k).openTimeout ≤ (updatedOf c f s k).confirmTimer)) := rfl
  rw [← htimer, ← htimeout, ← openOk_iff hconfirm hfresh, hnews]
  simp [hconfirm, hfresh]

/-- A CLOSE confirm past its first commanding frame succeeds with the feedback CLOSED and count 0 (R88). -/
theorem closeOk_iff {c : StepClass} {f : SampleFrame} {s : State} {k : Fin 4}
    (hconfirm : (s.sec k).confirm = .closing) (hfresh : (s.sec k).confirmFresh = false) :
    (newsOf c f s k).closeOk = true ↔
      (updatedOf c f s k).feedback = .closed ∧ (updatedOf c f s k).filterCount = 0 := by
  simp [newsOf, confirmNews, hconfirm, hfresh]

/-- Otherwise it times out once, when its timer reaches close_timeout (R86, R88). -/
theorem closeTimesOut_iff {c : StepClass} {f : SampleFrame} {s : State} {k : Fin 4}
    (hconfirm : (s.sec k).confirm = .closing) (hfresh : (s.sec k).confirmFresh = false) :
    (newsOf c f s k).closeTimesOut = true ↔
      ¬((updatedOf c f s k).feedback = .closed ∧ (updatedOf c f s k).filterCount = 0) ∧
      (s.sec k).confirmTimedOut = false ∧
      s.closeTimeout k ≤ min 64 ((s.sec k).confirmTimer + c.gap + 1) := by
  obtain ⟨-, hgap, -, -, htimeout, -⟩ := viewOf_items c f s k
  have htimer : (updatedOf c f s k).confirmTimer = min 64 ((s.sec k).confirmTimer + c.gap + 1) := by
    rw [updatedOf, confirmTimer_updated (by simp [hconfirm]) hfresh, hgap]
  have hnews : (newsOf c f s k).closeTimesOut = ((s.sec k).confirm != .none && !(s.sec k).confirmFresh
      && (s.sec k).confirm == .closing && !(newsOf c f s k).closeOk && !(s.sec k).confirmTimedOut
      && decide ((viewOf c f s k).closeTimeout ≤ (updatedOf c f s k).confirmTimer)) := rfl
  rw [← htimer, ← htimeout, ← closeOk_iff hconfirm hfresh, hnews]
  simp [hconfirm, hfresh, and_assoc]

/-- The store orders of a SAG or ENDING frame on an INJECTING section (R93). -/
theorem injectingUnderOrders_cases (k : Fin 4) (v : SectionView) (x : Section) :
    (v.order = .release →
      injectingUnderOrders k v x = leaveToReleasing k .store true .releasedStore x) ∧
    (v.order = .degrade → (injectingUnderOrders k v x).sec = { x with service := .degraded }) ∧
    (v.order = .serve → (injectingUnderOrders k v x).sec = x) := by
  refine ⟨fun h => ?_, fun h => ?_, fun h => ?_⟩
  · simp [injectingUnderOrders, h]
  · cases hservice : x.service with
    | full => simp [injectingUnderOrders, h, hservice]
    | degraded =>
      have hsame : { x with service := .degraded } = x := by rw [← hservice]
      rw [hsame]
      simp [injectingUnderOrders, h, hservice, Moved.quiet]
  · simp [injectingUnderOrders, h, Moved.quiet]

/-- An INJECTING section that no hazard, sag end or release order moves goes on injecting (R93). -/
theorem decideInjecting_stays {k : Fin 4} {v : SectionView} {a b : Bool} {x : Section}
    (hhazard : openHazard k v a b x = none) (hend : v.sagEnd = false)
    (hkeeps : ¬(v.inSag = true ∧ v.order = .release)) :
    (decideInjecting k v a b x).sec.state = x.state ∧
    (decideInjecting k v a b x).sec.confirm = x.confirm := by
  simp only [decideInjecting, hhazard, hend, Bool.false_eq_true, if_false]
  split
  · rename_i hsag
    obtain ⟨-, hdegrade, hserve⟩ := injectingUnderOrders_cases k v x
    cases horder : v.order with
    | release => exact absurd ⟨hsag, horder⟩ hkeeps
    | degrade => rw [hdegrade horder]; exact ⟨rfl, rfl⟩
    | serve => rw [hserve horder]; exact ⟨rfl, rfl⟩
  · exact ⟨rfl, rfl⟩

/-- Settles O26: success ends the confirm before the decision, which then leaves the section; a time-out is a
hazard. -/
theorem openConfirm : Obligations.OpenConfirm := by
  intro c f s k hacc hpend hconfirm hfresh hready hbridge
  have hexec := exec_sampleFrame_of_accepted hacc
  refine ⟨fun hopened hcount hfree => ?confirmed, fun hnot htimer hstate => ?stuck⟩
  case confirmed =>
    have hok := (openOk_iff hconfirm hfresh).2 ⟨hopened, hcount⟩
    have hended : (decidingOf c f s k).confirm = .none := by simp [decidingOf, hok, Section.endConfirm]
    have hfeedback := (filter_acceptedFrame c f s k).1.trans hopened
    obtain ⟨-, hhazard⟩ := openHazard_of_undisturbed hfree
    obtain ⟨hstate, -⟩ := decidingOf_leaves c f s k
    refine ⟨fun hinjecting hend hkeeps => ?injecting, fun hslewing hstart htracking => ?slewing⟩
    case injecting =>
      obtain ⟨hstays, hkept⟩ := decideInjecting_stays hhazard hend hkeeps
      rw [← decisionOf_injecting hbridge hinjecting] at hstays hkept
      have hstays := hstays.trans (hstate.trans hinjecting)
      have hsec := sec_acceptedFrame_of_holding (c := c) (f := f) (k := k) (s := s) (by rw [hstays]; rfl)
      exact ⟨_, hexec, by rw [hsec, hstays], by rw [hsec, hkept, hended], hfeedback⟩
    case slewing =>
      have hdecision : decisionOf c f s k = Moved.quiet (decidingOf c f s k) := by
        simp [decisionOf_slewing hbridge hslewing, decideSlewing, hhazard, hstart, htracking]
      have hstays := hstate.trans hslewing
      have hsec := sec_acceptedFrame_of_holding (c := c) (f := f) (k := k) (s := s)
        (by rw [hdecision, Moved.quiet, hstays]; rfl)
      rw [hdecision] at hsec
      exact ⟨_, hexec, by rw [hsec]; exact hstays, by rw [hsec]; exact hended, hfeedback⟩
  case stuck =>
    have htimesOut := (openTimesOut_iff (c := c) (f := f) hconfirm hfresh).2 ⟨hnot, htimer⟩
    have hnotOk : (newsOf c f s k).openOk = false :=
      Bool.eq_false_iff.2 fun h => hnot ((openOk_iff hconfirm hfresh).1 h)
    have hopening : (decidingOf c f s k).confirm = .opening := by
      simp [decidingOf, hnotOk, updatedOf, hconfirm]
    have hdecision : decisionOf c f s k = enterFault k .openStuck (decidingOf c f s k) :=
      decisionOf_of_hazard hbridge hstate (by simp [openHazard, hready, htimesOut])
    obtain ⟨hfault, hcause, hclosing, hseen, heligible, hreported⟩ := fault_acceptedFrame hpend hdecision
    obtain ⟨service, hsec⟩ := sec_acceptedFrame_of_decision (c := c) (f := f) (.inl hpend) k
    refine ⟨_, hexec, hfault, hcause, hclosing, ?_, hseen, heligible, hreported⟩
    rw [hsec, hdecision]
    simp [enterFault, Section.closeInFrame, Section.dropPending, hopening, Section.beginConfirm]

/-- A close that succeeds in RETURNING/CLOSING (R88, R105). -/
theorem closedToArmed_items (v : SectionView) (x : Section) :
    (closedToArmed v x).sec.confirm = .none ∧ (closedToArmed v x).sec.eligible = false ∧
    (closedToArmed v x).sec.state = if v.inSag then .watching else .armed := by
  unfold closedToArmed
  dsimp only
  split <;> exact ⟨rfl, rfl, rfl⟩

/-- A close that times out in RETURNING/CLOSING or RELEASING (R88): the confirm goes on. -/
theorem closeStuckFault_items (k : Fin 4) {x : Section} (h : x.confirm = .closing) :
    (closeStuckFault k x).sec.state = .fault ∧
    (closeStuckFault k x).sec.faultCause = some .closeStuck ∧
    (closeStuckFault k x).sec.confirm = .closing ∧
    (closeStuckFault k x).sec.confirmTimedOut = true ∧
    (closeStuckFault k x).alerts = [causeAlert .sectionFault k .closeStuck] := by
  simp [closeStuckFault, enterFault, Section.closeInFrame, Section.dropPending, h]

/-- Settles O27: success and time-out exclude each other, and each state decides on them. -/
theorem closeConfirm : Obligations.CloseConfirm := by
  intro c f s k hacc hpend hconfirm hfresh hready hbridge hover
  have hexec := exec_sampleFrame_of_accepted hacc
  have hclosing := (confirm_decidingOf_of_notOpening (c := c) (f := f) (k := k) (s := s)
    (by simp [hconfirm])).trans hconfirm
  obtain ⟨-, heligible, -, hleave, hcause, -⟩ := decidingOf_items c f s k
  obtain ⟨hstate, -⟩ := decidingOf_leaves c f s k
  have hbelow : ¬2 ≤ (updatedOf c f s k).overCount := Nat.not_le.2 hover
  obtain ⟨service, hsec⟩ := sec_acceptedFrame_of_decision (c := c) (f := f) (.inl hpend) k
  refine ⟨fun hclosed hzero => ?confirmed, fun hnot honce htimer hstates => ?stuck⟩
  case confirmed =>
    have hok := (closeOk_iff hconfirm hfresh).2 ⟨hclosed, hzero⟩
    have hnoStuck : (newsOf c f s k).closeTimesOut = false := Bool.eq_false_iff.2 fun h =>
      ((closeTimesOut_iff hconfirm hfresh).1 h).1 ⟨hclosed, hzero⟩
    refine ⟨_, hexec, fun hreturning => ?returning, fun hreleasing => ?releasing, fun hfault => ?fault⟩
    case returning =>
      have hdecision : decisionOf c f s k = closedToArmed (viewOf c f s k) (decidingOf c f s k) := by
        simp [decisionOf_closing hbridge hreturning, decideClosing, hready, hnoStuck, hbelow, hok]
      rw [hsec, hdecision]
      exact closedToArmed_items _ _
    case releasing =>
      have hdecision : decisionOf c f s k =
          Moved.quiet { (decidingOf c f s k).endConfirm with state := .bypassed } := by
        simp [decisionOf_releasing hbridge hreleasing, decideReleasing, hnoStuck, hok]
      rw [hsec, hdecision]
      exact ⟨rfl, rfl, hleave, heligible⟩
    case fault =>
      have hdecision : decisionOf c f s k =
          Moved.quiet { (decidingOf c f s k).endConfirm with closeSeen := true } := by
        simp [decisionOf_fault hbridge hfault, decideFault, hnoStuck, hok]
      rw [hsec, hdecision]
      exact ⟨rfl, hstate.trans hfault, rfl, hcause⟩
  case stuck =>
    have hstuck := (closeTimesOut_iff (c := c) (f := f) hconfirm hfresh).2 ⟨hnot, honce, htimer⟩
    have hitems : (decisionOf c f s k).sec.state = .fault ∧
        (decisionOf c f s k).sec.faultCause = some .closeStuck ∧
        (decisionOf c f s k).sec.confirm = .closing ∧
        (decisionOf c f s k).sec.confirmTimedOut = true ∧
        (decisionOf c f s k).alerts = [causeAlert .sectionFault k .closeStuck] := by
      rcases hstates with h | h | h
      · simp only [decisionOf_closing hbridge h, decideClosing, hready, hstuck]
        exact closeStuckFault_items k hclosing
      · simp only [decisionOf_releasing hbridge h, decideReleasing, hstuck]
        exact closeStuckFault_items k hclosing
      · simp only [decisionOf_fault hbridge h, decideFault, hstuck]
        exact ⟨hstate.trans h, rfl, hclosing, rfl, rfl⟩
    obtain ⟨hfault, hset, hstays, hmarked, halerts⟩ := hitems
    refine ⟨_, hexec, ?_, ?_, ?_, ?_, reportsFrom_acceptedFrame (.inl rfl) halerts⟩ <;> rw [hsec]
    · exact hfault
    · exact hset
    · exact hstays
    · exact hmarked

/-! ### Overcurrent (R99) -/

/-- A phase over the section's limit makes the section over it. -/
theorem isOver_viewOf {c : StepClass} {f : SampleFrame} {s : State} {k : Fin 4}
    (h : ∃ p : Phase, s.currentLimit k * 8192 < ((measured c f s).current k p).natAbs * 1000) :
    (viewOf c f s k).isOver = true := by
  obtain ⟨p, hp⟩ := h
  obtain ⟨-, -, -, -, -, -, -, hview⟩ := viewOf_items c f s k
  obtain ⟨-, hfront, -⟩ := decided_leaves c f s
  obtain ⟨-, -, -, -, -, hlimit, -⟩ := sectionFields_decided c f s k
  have hcurrent : (decided c f s).current k = (measured c f s).current k := by
    funext p
    rw [State.current, State.current, State.values, State.values, hfront]
  rw [hview, State.overLimit, hlimit, hcurrent]
  cases p <;> simp [anyPhase, Phases.build, Config.nominal, hp]

/-- Settles O28: the count reaches 2, and no entry of a higher rank applies. -/
theorem overcurrentReleases : Obligations.OvercurrentReleases := by
  intro c f s k hacc hcarrying honce hover hready hbridge hnoOpen hnoClose hcommanded
  have htwo : 2 ≤ (updatedOf c f s k).overCount := by
    rw [updatedOf, overCount_updated hcarrying (isOver_viewOf hover)]
    exact Nat.succ_le_succ honce
  have hhazard : (s.sec k).state ≠ .returningClosing →
      openHazard k (viewOf c f s k) (newsOf c f s k).openTimesOut (newsOf c f s k).turnedClosed
        (decidingOf c f s k) =
      some (leaveToReleasing k .overcurrent false .overcurrent (decidingOf c f s k)) := by
    intro hstate
    have huncommanded : ((newsOf c f s k).turnedClosed && (s.sec k).confirm != .opening) = false := by
      cases hturned : (newsOf c f s k).turnedClosed with
      | false => rfl
      | true => simp [(hcommanded hturned).resolve_right hstate]
    simp [openHazard, hready, hnoOpen, uncommandedClose_decidingOf, huncommanded, htwo]
  have hdecision : decisionOf c f s k =
      leaveToReleasing k .overcurrent false .overcurrent (decidingOf c f s k) := by
    cases hstate : (s.sec k).state with
    | injecting => exact decisionOf_of_hazard hbridge (.inl hstate) (hhazard (by simp [hstate]))
    | returningSlewing => exact decisionOf_of_hazard hbridge (.inr hstate) (hhazard (by simp [hstate]))
    | returningClosing =>
      simp [decisionOf_closing hbridge hstate, decideClosing, hready, hnoClose, htwo]
    | out | bypassed | armed | watching | releasing | fault =>
      rw [hstate] at hcarrying
      cases hcarrying
  obtain ⟨hstate, hleave, heligible, hconfirm, hzero, halerts⟩ :=
    leaveToReleasing_items k .overcurrent false .overcurrent (decidingOf c f s k)
  have hsec := sec_acceptedFrame_of_holding (c := c) (f := f) (k := k) (s := s)
    (by rw [hdecision, hstate]; rfl)
  refine ⟨_, exec_sampleFrame_of_accepted hacc, ?_⟩
  rw [hsec, hdecision]
  exact ⟨hstate, hleave, hzero, heligible, hconfirm,
    reportsFrom_acceptedFrame (.inr rfl) (by rw [hdecision, halerts])⟩

end Sys2Proof.Machine
end

section
/-! PROOFS. Arming and disarming at a reference cycle boundary, and the sections in a sag-start frame and in
the frames of a sag (R90 to R94, R101 to R103, R106, R107). -/

namespace Sys2Proof.Machine

/-! ### Frames in which no episode ends (R107) -/

/-- No episode ends where none is in progress and no sag starts. -/
theorem endsIn_of_noEpisode {c : StepClass} {f : SampleFrame} {s : State}
    (hepisode : s.controller.episode = false) (hstart : (judged c f s).detector.sagStart = false) :
    endsIn c f s = false := by
  have hkept : (judged c f s).controller = s.controller := by simp [judged, measured]
  have hnone : (raiseEpisode (judged c f s)).controller.episode = false := by
    simp [raiseEpisode, State.sagStarts, hkept, hepisode, hstart]
  simp [endsIn, controllerWork, episodeEnds, hnone]

/-- In a sag-start frame the detector is in SAG (R48, R49). -/
theorem inSag_of_sagStart {c : StepClass} {f : SampleFrame} {s : State} (hconf : s.configured = true)
    (hstart : (judged c f s).detector.sagStart = true) : (judged c f s).detector.state = .sag := by
  obtain ⟨hstate, levels, trigger, hlevels, htrigger⟩ := trigger_of_sagStart hconf hstart
  exact (detector_judged_of_trigger hconf hstate hlevels htrigger).1

/-- A detector in SAG or ENDING is not CLEAR. -/
theorem notClear_of_inSag {d : Detector} (h : d.inSag = true) : d.state ≠ .clear := by
  intro hclear
  simp [Detector.inSag, hclear] at h

/-- A recovered frame ends the sag only by clearing the state (R54). -/
theorem recover_clear_of_sagEnd {endQualify n : Nat} {d : Detector} (hnone : d.sagEnd = false)
    (h : (recover endQualify n d).sagEnd = true) : (recover endQualify n d).state = .clear := by
  unfold recover at h ⊢
  split
  · rfl
  · rename_i hshort
    rw [if_neg hshort] at h
    exact absurd h (by simp [hnone])

/-- A judged frame ends the sag only by clearing the state (R54). -/
theorem judge_clear_of_sagEnd {prev : Previous} {s : State} {levels : Phases Nat} {d : Detector}
    (hnone : d.sagEnd = false) (h : (judge prev s levels d).sagEnd = true) :
    (judge prev s levels d).state = .clear := by
  unfold judge at h ⊢
  dsimp only at h ⊢
  split <;> rename_i hstate <;> simp only [hstate] at h
  · simp [hnone] at h
  · simp [hnone] at h
  · split at h
    · rename_i hrecovered
      rw [if_pos hrecovered]
      exact recover_clear_of_sagEnd (by exact hnone) h
    · simp [hnone] at h
  · split at h
    · rename_i hrecovered
      rw [if_pos hrecovered]
      exact recover_clear_of_sagEnd (by exact hnone) h
    · simp [hnone] at h

/-- No sag ends in a frame whose detector state is SAG or ENDING (R54). -/
theorem sagEnd_of_inSag {c : StepClass} {f : SampleFrame} {s : State} (hconf : s.configured = true)
    (h : (judged c f s).detector.inSag = true) : (judged c f s).detector.sagEnd = false := by
  obtain ⟨-, -, -, -, -, -, -, hnone⟩ := timedOf_leaves c f s
  refine Bool.eq_false_iff.2 fun hend => notClear_of_inSag h ?_
  cases hlevels : levelsOf c f s with
  | none =>
    rw [detector_judged_of_noLevels hconf hlevels] at hend
    simp [hnone] at hend
  | some levels =>
    rw [detector_judged hconf hlevels] at hend ⊢
    simp only [jump_leaves] at hend ⊢
    exact judge_clear_of_sagEnd hnone hend

/-! ### Arming and disarming at a boundary (R101 to R103, R106) -/

/-- A BYPASSED section at a boundary decides as there (R84). -/
theorem decisionOf_bypassed_atBoundary {c : StepClass} {f : SampleFrame} {s : State} {k : Fin 4}
    (hconf : s.configured = true) (hbridge : (viewOf c f s k).status.bridgeFault = false)
    (hstate : (s.sec k).state = .bypassed)
    (hboundary : (judged c f s).tracker.marks.boundary = true)
    (hstart : (judged c f s).detector.sagStart = false) :
    decisionOf c f s k = Moved.quiet (atBoundary (viewOf c f s k) (decidingOf c f s k)) := by
  obtain ⟨-, -, hview⟩ := viewOf_marks (c := c) (f := f) hconf k
  obtain ⟨hnoStart, -⟩ := viewOf_events (c := c) (f := f) hconf k
  simp [decisionOf_bypassed hbridge hstate, decideBypassed, hnoStart.trans hstart,
    hview.trans hboundary]

/-- The arming conditions, with the accepted feedback, as the boundary finds them (R101). -/
theorem armingConditions_iff {c : StepClass} {f : SampleFrame} {s : State} (hconf : s.configured = true)
    (hstart : (judged c f s).detector.sagStart = false) (k : Fin 4) :
    ((viewOf c f s k).mayArm && (decidingOf c f s k).feedback == .closed) = true ↔
      s.controller.run = .running ∧ s.controller.episode = false ∧
      (judged c f s).tracker.lock = .locked ∧
      (judged c f s).store.ready.get (s.classOf k) = true ∧
      (updatedOf c f s k).feedback = .closed ∧ (viewOf c f s k).status.ready = true := by
  obtain ⟨-, -, -, -, -, hfeedback⟩ := decidingOf_items c f s k
  rw [Bool.and_eq_true, viewOf_mayArm hconf hstart k, hfeedback, beq_iff_eq]
  constructor
  · rintro ⟨⟨hrun, hnone, hlock, hready, hdriver⟩, hclosed⟩
    exact ⟨hrun, hnone, hlock, hready, hclosed, hdriver⟩
  · rintro ⟨hrun, hnone, hlock, hready, hclosed, hdriver⟩
    exact ⟨⟨hrun, hnone, hlock, hready, hdriver⟩, hclosed⟩

/-- Settles O29: with the conditions the section arms and no episode ends; without them a pending ARM is
dropped; a pending DISARM takes an ARMED section to BYPASSED. -/
theorem armingAtBoundary : Obligations.ArmingAtBoundary := by
  refine ⟨?arms, ?discards, ?disarms⟩
  case arms =>
    intro c f s k hacc hconf hstate hbridge hboundary hstart hrun hepisode hlock hready hclosed hdriver
    have hdecision := decisionOf_bypassed_atBoundary hconf hbridge hstate hboundary hstart
    have hconditions := (armingConditions_iff hconf hstart k).2
      ⟨hrun, hepisode, hlock, hready, hclosed, hdriver⟩
    obtain ⟨hpending, heligible, hhold, -⟩ := decidingOf_items c f s k
    obtain ⟨-, -, -, -, -, hrearm, -⟩ := viewOf_items c f s k
    have hsec := sec_acceptedFrame_of_up (endsIn_of_noEpisode hepisode hstart) k
    have harmed : atBoundary (viewOf c f s k) (decidingOf c f s k) = (decidingOf c f s k).armedNow →
        (fillOutSlot (atSlot c f s)).sec k = (decidingOf c f s k).armedNow := fun h => by
      rw [hsec, hdecision, h]
      rfl
    refine ⟨fun harm => ⟨_, exec_sampleFrame_of_accepted hacc, ?_⟩,
      fun hnoArm hmay hauto hfree => ⟨_, exec_sampleFrame_of_accepted hacc, ?_⟩⟩
    · rw [harmed (by simp [atBoundary, hpending, harm, hconditions])]
      exact ⟨rfl, rfl, rfl, rfl⟩
    · rw [harmed (by simp [atBoundary, hpending, hnoArm, heligible, hmay, hrearm, hauto, hhold, hfree,
        hconditions])]
      exact ⟨rfl, rfl, rfl⟩
  case discards =>
    intro c f s k hacc hpend hconf hstate harm hbridge hboundary hstart hnot
    have hdecision := decisionOf_bypassed_atBoundary hconf hbridge hstate hboundary hstart
    have hfail := Bool.eq_false_iff.2 fun h => hnot ((armingConditions_iff hconf hstart k).1 h)
    obtain ⟨hpending, heligible, hhold, -⟩ := decidingOf_items c f s k
    obtain ⟨hstays, -⟩ := decidingOf_leaves c f s k
    obtain ⟨service, hsec⟩ := sec_acceptedFrame_of_decision (c := c) (f := f) (.inl hpend) k
    refine ⟨_, exec_sampleFrame_of_accepted hacc, ?_⟩
    simp only [hsec, hdecision, Moved.quiet, atBoundary, hpending, harm, hfail, if_true,
      Bool.false_eq_true, if_false]
    exact ⟨hstays.trans hstate, trivial, trivial, heligible, hhold⟩
  case disarms =>
    intro c f s k hacc hpend hconf hstate hdisarm hboundary hstart hclosed hready hbridge
    obtain ⟨-, -, hview⟩ := viewOf_marks (c := c) (f := f) hconf k
    obtain ⟨hnoStart, -⟩ := viewOf_events (c := c) (f := f) hconf k
    obtain ⟨hpending, heligible, hhold, -⟩ := decidingOf_items c f s k
    have hdecision : decisionOf c f s k = leaveToBypassed k .request (decidingOf c f s k).eligible
        .releasedRequest (decidingOf c f s k) := by
      simp [decisionOf_armed hbridge hstate, decideArmed, hready, hclosed, hnoStart.trans hstart,
        hview.trans hboundary, hpending, hdisarm]
    obtain ⟨service, hsec⟩ := sec_acceptedFrame_of_decision (c := c) (f := f) (.inl hpend) k
    refine ⟨_, exec_sampleFrame_of_accepted hacc, ?_⟩
    rw [hsec, hdecision]
    exact ⟨rfl, rfl, rfl, heligible, hhold,
      reportsFrom_acceptedFrame (.inr rfl) (by rw [hdecision]; rfl)⟩

/-! ### Entry to INJECTING (R90 to R92) -/

/-- A section that enters INJECTING with a new OPEN confirm. -/
theorem enterInjecting_opening_items (c : StepClass) (f : SampleFrame) (s : State) (k : Fin 4)
    (order : Band) :
    let m := enterInjecting k order ((decidingOf c f s k).beginConfirm .opening)
    m.sec.state = .injecting ∧ m.sec.confirm = .opening ∧ m.sec.confirmTimer = 0 ∧
    (m.sec.service = .full ↔ order = .serve ∧ (s.sec k).service = .full) := by
  obtain ⟨hstate, hconfirm, htimer, hservice⟩ :=
    enterInjecting_items k order ((decidingOf c f s k).beginConfirm .opening)
  obtain ⟨-, hkept, -⟩ := decidingOf_leaves c f s k
  have hsame : ((decidingOf c f s k).beginConfirm .opening).service = (s.sec k).service := hkept
  rw [hsame] at hservice
  exact ⟨hstate, hconfirm, htimer, hservice⟩

/-- Settles O30: the detector is in SAG, so no episode ends; each state decides by its own entry. -/
theorem sectionsAtSagStart : Obligations.SectionsAtSagStart := by
  intro c f s k hacc hconf hstart hbridge
  have hsag := inSag_of_sagStart hconf hstart
  have hsec := sec_acceptedFrame_of_up (c := c) (f := f) (s := s) (endsIn_of_notClear (by simp [hsag])) k
  obtain ⟨hstarts, -⟩ := viewOf_events (c := c) (f := f) hconf k
  have hstarts := hstarts.trans hstart
  obtain ⟨-, hneeded, -⟩ := viewOf_marks (c := c) (f := f) hconf k
  obtain ⟨-, -, -, -, -, -, horder, -⟩ := viewOf_items c f s k
  obtain ⟨hpending, -⟩ := decidingOf_items c f s k
  refine ⟨_, exec_sampleFrame_of_accepted hacc, fun harmed hready hclosed => ?armed,
    fun hbypassed harm => ?bypassed, fun hslewing hfree => ?slewing⟩
  case armed =>
    have hdecision : decisionOf c f s k = armedAtSagStart k (viewOf c f s k) (decidingOf c f s k) := by
      simp [decisionOf_armed hbridge harmed, decideArmed, hready, hclosed, hstarts]
    simp only [armedAtSagStart, hpending, horder, hneeded] at hdecision
    rw [hsec]
    refine ⟨fun hdisarm => ?disarm, fun hkept hrelease => ?release, fun hkept hserved hneed => ?injects,
      fun hkept hserved hidle => ?watches⟩
    case disarm =>
      rw [hdecision, if_pos hdisarm]
      exact ⟨rfl, rfl, rfl⟩
    case release =>
      rw [if_neg hkept, if_pos hrelease] at hdecision
      rw [hdecision]
      exact ⟨rfl, rfl, rfl, reportsFrom_acceptedFrame (.inr rfl) (by rw [hdecision]; rfl)⟩
    case injects =>
      rw [hdecision, if_neg hkept, if_neg hserved, if_pos hneed]
      exact enterInjecting_opening_items c f s k _
    case watches =>
      rw [hdecision, if_neg hkept, if_neg hserved, if_neg (by simp [hidle])]
  case bypassed =>
    have hdecision : decisionOf c f s k = Moved.quiet
        { decidingOf c f s k with pendingReq := .none, lastArm := .discardedSag } := by
      simp [decisionOf_bypassed hbridge hbypassed, decideBypassed, hstarts, hpending, harm]
    obtain ⟨hstays, -⟩ := decidingOf_leaves c f s k
    rw [hsec, hdecision]
    exact ⟨hstays.trans hbypassed, rfl, rfl⟩
  case slewing =>
    obtain ⟨-, hhazard⟩ := openHazard_of_undisturbed hfree
    have hdecision : decisionOf c f s k =
        slewingAtSagStart k (viewOf c f s k) (decidingOf c f s k) := by
      simp [decisionOf_slewing hbridge hslewing, decideSlewing, hhazard, hstarts]
    simp only [slewingAtSagStart, horder] at hdecision
    rw [hsec, hdecision]
    refine ⟨fun hrelease => ?_, fun hserved => ?_⟩
    · rw [if_pos hrelease]
      obtain ⟨hstate, hleave, heligible, hconfirm, -⟩ :=
        leaveToReleasing_items k .store true .releasedStore (decidingOf c f s k)
      exact ⟨hstate, hleave, heligible, hconfirm⟩
    · rw [if_neg hserved]
      obtain ⟨hstate, hconfirm, -, hservice⟩ :=
        enterInjecting_items k ((judged c f s).orderOf k) (decidingOf c f s k).endConfirm
      obtain ⟨-, hkept, -⟩ := decidingOf_leaves c f s k
      have hsame : (decidingOf c f s k).endConfirm.service = (s.sec k).service := hkept
      rw [hsame] at hservice
      exact ⟨hstate, hconfirm, hservice⟩

/-- Settles O31: no sag ends and no episode either; the order of the section's class decides. -/
theorem sectionsThroughSag : Obligations.SectionsThroughSag := by
  intro c f s k hacc hconf hsag hstart hfree
  have hsec := sec_acceptedFrame_of_up (c := c) (f := f) (s := s)
    (endsIn_of_notClear (notClear_of_inSag hsag)) k
  obtain ⟨hnoStart, hnoEnd, -⟩ := viewOf_events (c := c) (f := f) hconf k
  have hnoStart := hnoStart.trans hstart
  have hnoEnd := hnoEnd.trans (sagEnd_of_inSag hconf hsag)
  obtain ⟨hin, hneeded, -⟩ := viewOf_marks (c := c) (f := f) hconf k
  have hin := hin.trans hsag
  obtain ⟨-, -, -, -, -, -, horder, -⟩ := viewOf_items c f s k
  obtain ⟨-, hhazard⟩ := openHazard_of_undisturbed hfree
  obtain ⟨hstays, hservice, -⟩ := decidingOf_leaves c f s k
  obtain ⟨⟨⟨⟨hready, hbridge⟩, -⟩, -⟩, -⟩ := by
    simpa only [undisturbed, Bool.and_eq_true, Bool.not_eq_true'] using hfree
  refine ⟨_, exec_sampleFrame_of_accepted hacc, fun hwatching hclosed => ?watching,
    fun hinjecting => ?injecting⟩
  case watching =>
    have hdecision : decisionOf c f s k =
        if (judged c f s).orderOf k = .release then
          leaveToBypassed k .store true .releasedStore (decidingOf c f s k)
        else if ((judged c f s).demand.get k).needed then
          enterInjecting k ((judged c f s).orderOf k) ((decidingOf c f s k).beginConfirm .opening)
        else Moved.quiet (decidingOf c f s k) := by
      simp [decisionOf_watching hbridge hwatching, decideWatching, hready, hclosed, hnoEnd, hin,
        hnoStart, horder, hneeded]
    rw [hsec, hdecision]
    refine ⟨fun hrelease => ?releases, fun hserved hneed => ?injects, fun hserved hidle => ?stays⟩
    case releases =>
      rw [if_pos hrelease]
      exact ⟨rfl, rfl, rfl⟩
    case injects =>
      rw [if_neg hserved, if_pos hneed]
      obtain ⟨hstate, hconfirm, -, hlevel⟩ :=
        enterInjecting_opening_items c f s k ((judged c f s).orderOf k)
      exact ⟨hstate, hconfirm, hlevel⟩
    case stays =>
      rw [if_neg hserved, if_neg (by simp [hidle])]
      exact hstays.trans hwatching
  case injecting =>
    have hdecision : decisionOf c f s k =
        injectingUnderOrders k (viewOf c f s k) (decidingOf c f s k) := by
      simp [decisionOf_injecting hbridge hinjecting, decideInjecting, hhazard, hnoEnd, hin]
    obtain ⟨hreleases, hdegrades, hserves⟩ :=
      injectingUnderOrders_cases k (viewOf c f s k) (decidingOf c f s k)
    rw [← hdecision, horder] at hreleases hdegrades hserves
    rw [hsec]
    refine ⟨fun hrelease => ?release, fun hdegrade => ?degrade, fun hserve => ?serve⟩
    case release =>
      have hreleased := hreleases hrelease
      obtain ⟨hstate, hleave, heligible, hconfirm, -, halerts⟩ :=
        leaveToReleasing_items k .store true .releasedStore (decidingOf c f s k)
      rw [← hreleased] at hstate hleave heligible hconfirm halerts
      exact ⟨hstate, hleave, heligible, hconfirm, reportsFrom_acceptedFrame (.inr rfl) halerts⟩
    case degrade =>
      rw [hdegrades hdegrade]
      exact ⟨hstays.trans hinjecting, rfl⟩
    case serve =>
      rw [hserves hserve]
      exact ⟨hstays.trans hinjecting, hservice⟩

end Sys2Proof.Machine
end

section
/-! PROOFS. The requests that move sections: ARM_SECTION, DISARM_SECTION and CLEAR_FAULT one of them, RUN and
HALT all of them (R79, R80, R101, R103, R104, R108). -/

namespace Sys2Proof.Machine

/-! ### A request that names a section (R174) -/

/-- A section argument in 1..4 is served by the effect on its section. -/
theorem serve_onSection_of_effect {code : Nat} {sec b c : Word} {k : Fin 4} {effect : Fin 4 → Effect}
    {s u : State} {reply : Reply} (hslot : slotOpen s = true) (hsec : sec.toNat = k.val + 1)
    (h : effect k (s.begin.slotted (Request.plain code sec b c)) = (u, reply)) :
    serve (Request.plain code sec b c) (onSection sec effect) s.begin =
      u.queued (reply.parts (Word.ofNat code)) :=
  serve_plain_of_effect hslot ((congrFun (onSection_of_toNat effect hsec) _).trans h)

/-- A section argument outside 1..4 is answered BAD_ARGUMENT, and nothing else changes. -/
theorem serve_onSection_of_out {code : Nat} {sec b c : Word} (effect : Fin 4 → Effect) {s : State}
    (hslot : slotOpen s = true) (h : sec.toNat < 1 ∨ 4 < sec.toNat) :
    serve (Request.plain code sec b c) (onSection sec effect) s.begin =
      s.taken (Request.plain code sec b c) .badArgument [] :=
  (serve_plain_of_effect hslot (congrFun (onSection_of_out effect h) _)).trans rfl

/-! ### ARM_SECTION and CLEAR_FAULT (R101, R104) -/

/-- The arming conditions (R101). -/
theorem State.armingConditions_iff (s : State) (k : Fin 4) : s.armingConditions k = true ↔
    s.controller.run = .running ∧ s.controller.episode = false ∧ s.tracker.lock = .locked ∧
    s.store.ready.get (s.classOf k) = true ∧ (s.sec k).feedback = .closed ∧
    (s.front.status.get k).ready = true := by
  simp only [State.armingConditions, State.mayArm, Bool.and_eq_true, Bool.not_eq_true', beq_iff_eq,
    State.sec]
  constructor
  · rintro ⟨⟨⟨⟨⟨hrun, hdown⟩, hlock⟩, hstored⟩, hready⟩, hclosed⟩
    exact ⟨hrun, hdown, hlock, hstored, hclosed, hready⟩
  · rintro ⟨hrun, hdown, hlock, hstored, hclosed, hready⟩
    exact ⟨⟨⟨⟨⟨hrun, hdown⟩, hlock⟩, hstored⟩, hready⟩, hclosed⟩

/-- A request in the slot moves no arming condition. -/
theorem armSectionEffect_of_conditions {k : Fin 4} {s : State} (hstate : (s.sec k).state = .bypassed)
    (h : s.armingConditions k = true) : armSectionEffect k s =
      (s.withSection k { s.sec k with pendingReq := .arm, hold := false }, Reply.code .ok) :=
  if_pos ⟨hstate, h⟩

/-- Without the arming conditions, or outside BYPASSED, nothing is armed. -/
theorem armSectionEffect_of_not {k : Fin 4} {s : State}
    (h : ¬((s.sec k).state = .bypassed ∧ s.armingConditions k = true)) :
    armSectionEffect k s = (s, Reply.code .refusedState) := if_neg h

/-- A FAULT section whose bypass is closed and whose bridge reports no fault is cleared. -/
theorem clearFaultEffect_of_conditions {k : Fin 4} {s : State} (h : (s.sec k).state = .fault ∧
    (s.sec k).feedback = .closed ∧ (s.front.status.get k).bridgeFault = false) :
    clearFaultEffect k s = (s.withSection k (s.sec k).faultCleared, Reply.code .ok) := if_pos h

/-- Any other is not. -/
theorem clearFaultEffect_of_not {k : Fin 4} {s : State} (h : ¬((s.sec k).state = .fault ∧
    (s.sec k).feedback = .closed ∧ (s.front.status.get k).bridgeFault = false)) :
    clearFaultEffect k s = (s, Reply.code .refusedState) := if_neg h

/-! ### DISARM_SECTION (R103) -/

/-- No outcome leaves every record as it is. -/
theorem handOutcomes_nil (k : Fin 4) (s : State) : handOutcomes k [] s = s := by
  have hsame : ∀ rs : List Record, updateOpen (fun r => r) rs = rs := by
    intro rs
    rcases records_cases rs with rfl | ⟨qs, r, rfl⟩
    · rfl
    · rw [updateOpen_append, ite_self]
  simp only [handOutcomes, State.updateOpenRecord, List.foldl_nil, hsame]

/-- A section that a request moves. -/
theorem disarmSectionEffect_of_some {k : Fin 4} {s : State} {m : Moved}
    (h : disarmed k (s.sec k) = some m) : disarmSectionEffect k s =
      (handOutcomes k m.outcomes ((s.withSection k m.sec).raiseAll m.alerts), Reply.code .ok) := by
  have hread : disarmed k (s.controller.sections.get k) = some m := h
  simp only [disarmSectionEffect, hread]

/-- One that it moves without alert and outcome is replaced. -/
theorem disarmSectionEffect_of_quiet {k : Fin 4} {s : State} {x : Section}
    (h : disarmed k (s.sec k) = some (Moved.quiet x)) :
    disarmSectionEffect k s = (s.withSection k x, Reply.code .ok) :=
  (disarmSectionEffect_of_some h).trans (congrArg (·, Reply.code .ok) (handOutcomes_nil k _))

/-- A section that no request may disarm. -/
theorem disarmSectionEffect_of_none {k : Fin 4} {s : State} (h : disarmed k (s.sec k) = none) :
    disarmSectionEffect k s = (s, Reply.code .refusedState) := by
  have hread : disarmed k (s.controller.sections.get k) = none := h
  simp only [disarmSectionEffect, hread]

/-- A WATCHING section, and one that carries load current, are released with the cause REQUEST. -/
theorem disarmed_of_serving (k : Fin 4) {x : Section}
    (h : x.state = .watching ∨ x.state.carrying = true) :
    ∃ m, disarmed k x = some m ∧ m.alerts = [causeAlert .sectionReleased k .request] ∧
      m.sec.hold = true ∧ m.sec.eligible = false ∧ m.sec.lastLeave = .request ∧
      m.sec.state = (if x.state = .watching then .bypassed else .releasing) ∧
      (x.state.carrying = true → m.sec.confirm = .closing) := by
  cases hstate : x.state with
  | watching =>
    simp only [disarmed, hstate]
    exact ⟨_, rfl, rfl, rfl, rfl, rfl, rfl, fun h => nomatch h⟩
  | injecting | returningSlewing | returningClosing =>
    simp only [disarmed, hstate]
    exact ⟨_, rfl, rfl, (by simp), (by simp), rfl, rfl, fun _ => (closeByRequest_leaves _).1⟩
  | out | bypassed | armed | releasing | fault =>
    rw [hstate] at h
    exact absurd h (by decide)

/-- What the release of a section by request comes to. -/
theorem disarm_of_serving {sec : Word} {k : Fin 4} {s : State} (hslot : slotOpen s = true)
    (hsec : sec.toNat = k.val + 1) (h : (s.sec k).state = .watching ∨ (s.sec k).state.carrying = true) :
    ∃ t, exec (.disarmSection sec) s = .next t ∧
      t.link = s.link ∧ t.tracker = s.tracker ∧ t.detector = s.detector ∧ t.loader = s.loader ∧
      (∀ j : Fin 4, j ≠ k → t.sec j = s.sec j) ∧ t.controller.run = s.controller.run ∧
      t.controller.episode = s.controller.episode ∧
      t.management.queue = [⟨11, .ok, 1, 1, .words []⟩] ∧
      (t.sec k).hold = true ∧ (t.sec k).eligible = false ∧ (t.sec k).lastLeave = .request ∧
      (t.sec k).state = (if (s.sec k).state = .watching then .bypassed else .releasing) ∧
      ((s.sec k).state.carrying = true → (t.sec k).confirm = .closing) ∧
      t.reports .sectionReleased ⟨Word.ofNat (k.val + 1), 4⟩ = true := by
  obtain ⟨m, hm, halerts, hhold, heligible, hleave, hstate, hconfirm⟩ := disarmed_of_serving k h
  have heffect := disarmSectionEffect_of_some (s := s.begin.slotted (Request.plain 11 sec 0 0)) hm
  have hserved := serve_onSection_of_effect hslot hsec heffect
  rw [halerts] at hserved
  have hget : ∀ j, (s.controller.sections.set k m.sec).get j = if k = j then m.sec else s.sec j :=
    fun j => Four.get_set _ _ _ _
  refine ⟨_, congrArg Host.Outcome.next hserved, rfl, rfl, rfl, rfl, fun j hj => ?others, rfl, rfl, rfl,
    ?_⟩
  case others => exact (hget j).trans (if_neg fun hk => hj hk.symm)
  have hsame : ∀ t : State, t.controller.sections = s.controller.sections.set k m.sec →
      t.sec k = m.sec := fun t ht => by rw [State.sec, ht, hget, if_pos rfl]
  rw [hsame _ rfl]
  refine ⟨hhold, heligible, hleave, hstate, hconfirm, Bool.or_eq_true_iff.2 (.inl (decide_eq_true ?_))⟩
  exact PerKind.get_set_self s.management.alerts .sectionReleased _

/-- Settles O44: each request's effect, row by row, in the engine with the request in its slot. -/
theorem sectionRequests : Obligations.SectionRequests := by
  refine ⟨⟨⟨fun sec k s hslot hsec => ⟨fun h => congrArg Host.Outcome.next ?armed,
      fun h => congrArg Host.Outcome.next ?unarmed⟩, fun sec s hslot hout =>
      congrArg Host.Outcome.next (serve_onSection_of_out _ hslot hout)⟩,
    fun sec k s hslot hsec => ⟨fun h => congrArg Host.Outcome.next ?cleared,
      fun h => congrArg Host.Outcome.next ?uncleared⟩, fun sec s hslot hout =>
      congrArg Host.Outcome.next (serve_onSection_of_out _ hslot hout)⟩,
    fun sec k s hslot hsec => ⟨fun h => congrArg Host.Outcome.next ?refused,
      fun h => congrArg Host.Outcome.next ?marked, fun h => congrArg Host.Outcome.next ?withdrawn,
      fun h => disarm_of_serving hslot hsec h⟩, fun sec s hslot hout =>
      congrArg Host.Outcome.next (serve_onSection_of_out _ hslot hout)⟩
  case armed =>
    obtain ⟨hstate, hconditions⟩ := h
    exact (serve_onSection_of_effect hslot hsec (armSectionEffect_of_conditions hstate
      ((State.armingConditions_iff _ k).2 hconditions))).trans rfl
  case unarmed =>
    refine (serve_onSection_of_effect hslot hsec (armSectionEffect_of_not fun ⟨hstate, hconditions⟩ =>
      h ⟨hstate, (State.armingConditions_iff _ k).1 hconditions⟩)).trans rfl
  case cleared =>
    exact (serve_onSection_of_effect hslot hsec (clearFaultEffect_of_conditions h)).trans rfl
  case uncleared =>
    exact (serve_onSection_of_effect hslot hsec (clearFaultEffect_of_not h)).trans rfl
  case refused =>
    have hnone : disarmed k (s.sec k) = none := by
      rcases h with h | h <;> simp only [disarmed, h]
    exact (serve_onSection_of_effect hslot hsec (disarmSectionEffect_of_none hnone)).trans rfl
  case marked =>
    have hquiet : disarmed k (s.sec k) = some (Moved.quiet
        { s.sec k with pendingReq := .disarm, hold := true, eligible := false }) := by
      simp only [disarmed, h]
    exact (serve_onSection_of_effect hslot hsec (disarmSectionEffect_of_quiet hquiet)).trans rfl
  case withdrawn =>
    have hquiet : disarmed k (s.sec k) = some (Moved.quiet { s.sec k with
        pendingReq := .none, hold := true, eligible := false
        lastArm := if (s.sec k).pendingReq = .arm then .withdrawn else (s.sec k).lastArm }) := by
      rcases h with h | h <;> simp only [disarmed, h]
    exact (serve_onSection_of_effect hslot hsec (disarmSectionEffect_of_quiet hquiet)).trans rfl

/-! ### A section at HALT (R80) -/

/-- What HALT makes of a section in any state, and what it keeps. -/
theorem haltSection_all (k : Fin 4) (x : Section) :
    (haltSection k x).sec.eligible = false ∧ (haltSection k x).sec.pendingReq = .none ∧
    (haltSection k x).sec.hold = x.hold ∧ (haltSection k x).sec.feedback = x.feedback ∧
    (haltSection k x).sec.filterCount = x.filterCount ∧ (haltSection k x).sec.service = x.service ∧
    (haltSection k x).sec.faultCause = x.faultCause ∧ (haltSection k x).sec.closeSeen = x.closeSeen ∧
    (haltSection k x).sec.lastArm =
      (if x.pendingReq = .arm then .discardedConditions else x.lastArm) := by
  unfold haltSection
  dsimp only
  split <;> simp [closeByRequest_keeps, Section.dropPending, Moved.quiet]

/-- A section that carries load current goes to RELEASING; a CLOSE confirm in progress goes on. -/
theorem haltSection_of_carrying (k : Fin 4) {x : Section} (h : x.state.carrying = true) :
    (haltSection k x).sec.state = .releasing ∧ (haltSection k x).sec.lastLeave = .halt ∧
    (haltSection k x).sec.confirm = .closing ∧
    (x.confirm = .closing → (haltSection k x).sec.confirmTimer = x.confirmTimer) ∧
    (haltSection k x).alerts = [causeAlert .sectionReleased k .halt] ∧
    (haltSection k x).outcomes = [.releasedHalt] := by
  have hkept : ∀ y : Section, y.confirm = .closing → y.closeByRequest.confirmTimer = y.confirmTimer :=
    fun y hy => congrArg Section.confirmTimer (if_pos hy)
  cases hstate : x.state with
  | injecting | returningSlewing | returningClosing =>
    simp only [haltSection, hstate]
    refine ⟨trivial, trivial, (closeByRequest_leaves _).1, fun hclosing => ?_, trivial, trivial⟩
    exact hkept _ hclosing
  | out | bypassed | armed | watching | releasing | fault =>
    rw [hstate] at h
    cases h

/-- An ARMED or WATCHING section goes to BYPASSED. -/
theorem haltSection_of_waiting (k : Fin 4) {x : Section} (h : x.state = .armed ∨ x.state = .watching) :
    (haltSection k x).sec.state = .bypassed ∧ (haltSection k x).sec.lastLeave = .halt ∧
    (haltSection k x).alerts = [causeAlert .sectionReleased k .halt] ∧
    (haltSection k x).outcomes = [.releasedHalt] := by
  rcases h with h | h <;> simp [haltSection, h]

/-- Every other section stays, and nothing is raised or handed. -/
theorem haltSection_of_other (k : Fin 4) {x : Section}
    (h : x.state = .out ∨ x.state = .bypassed ∨ x.state = .releasing ∨ x.state = .fault) :
    (haltSection k x).sec.state = x.state ∧ (haltSection k x).sec.lastLeave = x.lastLeave ∧
    (haltSection k x).sec.confirm = x.confirm ∧ (haltSection k x).outcomes = [] := by
  rcases h with h | h | h | h <;> simp [haltSection, Section.dropPending, Moved.quiet, h]

/-- HALT names its section, and raises SECTION_RELEASED alone. -/
theorem haltSection_raises (k : Fin 4) (x : Section) :
    (haltSection k x).raisesFor k ∧ ∀ a ∈ (haltSection k x).alerts, a.1 = .sectionReleased := by
  unfold haltSection
  dsimp only
  split <;> exact ⟨by simp, by simp [causeAlert, Moved.quiet]⟩

/-- The outcome of a section at HALT, entered in a record (R151). -/
theorem worse_haltSection (k : Fin 4) (x : Section) (kept : EntryOutcome) :
    (haltSection k x).outcomes.foldl worse kept =
      if x.state.carrying = true ∨ x.state = .armed ∨ x.state = .watching
      then worse kept .releasedHalt else kept := by
  cases hstate : x.state with
  | injecting | returningSlewing | returningClosing | armed | watching =>
    simp [haltSection, hstate, SecState.carrying]
  | out | bypassed | releasing | fault =>
    simp [haltSection, hstate, SecState.carrying, Moved.quiet]

/-! ### HALT (R80, R105, R108) -/

/-- Raisings move the alert flags alone. -/
theorem raiseAll_eq (as : List (AlertKind × Payload)) (s : State) : s.raiseAll as =
    { s with management := { s.management with alerts := (s.raiseAll as).management.alerts } } := by
  induction as generalizing s with
  | nil => rfl
  | cons a as ih => exact (ih (s.raise a.1 a.2)).trans rfl

/-- The four sections' moves at HALT. -/
def haltMoves (s : State) : Four Moved := Four.build fun k => haltSection k (s.sec k)

/-- The engine once HALT has put the sections in place (R80). -/
def haltPlaced (s : State) : State :=
  placeSections (haltMoves s) { s with controller := { s.controller with run := .halted } }

/-- HALT puts the sections in place and hands their outcomes. -/
theorem haltEffect_eq (s : State) : haltEffect s =
    ((haltPlaced s).updateOpenRecord (Record.handedAll ((haltMoves s).map Moved.outcomes)),
      Reply.code .ok) :=
  congrArg (·, Reply.code .ok) (handAll_eq _ _)

/-- HALT moves run state, sections and alert flags alone. -/
theorem haltPlaced_eq (s : State) : haltPlaced s =
    { s with
      controller := { s.controller with run := .halted, sections := (haltMoves s).map Moved.sec }
      management := { s.management with alerts := (haltPlaced s).management.alerts } } :=
  raiseAll_eq _ _

/-- Each section is as HALT leaves it, and the records stand until the outcomes are handed. -/
theorem sec_haltPlaced (s : State) (k : Fin 4) :
    (haltPlaced s).sec k = (haltSection k (s.sec k)).sec := by
  rw [haltPlaced_eq, State.sec, Four.get_map, haltMoves, Four.get_build]

theorem records_haltPlaced (s : State) : (haltPlaced s).records = s.records := by
  rw [haltPlaced_eq]

/-- A section's release at HALT stands, or that of a higher-numbered section does. -/
theorem standsFrom_haltPlaced {s : State} {k : Fin 4}
    (h : (haltSection k (s.sec k)).alerts = [causeAlert .sectionReleased k .halt]) :
    (haltPlaced s).standsFrom .sectionReleased k .halt := by
  refine standsFrom_placeSections (by decide) (fun j => ?_) ?_ _
  · rw [haltMoves, Four.get_build]
    exact (haltSection_raises j _).1
  · rw [haltMoves, Four.get_build]
    exact h

/-- It is reported while the flags stand. -/
theorem reportsFrom_of_haltPlaced {s t : State} {k : Fin 4}
    (ht : t.management.alerts = (haltPlaced s).management.alerts)
    (h : (haltSection k (s.sec k)).alerts = [causeAlert .sectionReleased k .halt]) :
    t.reportsFrom .sectionReleased k .halt = true :=
  reportsFrom_of_standsFrom
    ((standsFrom_congr (congrArg (PerKind.get · .sectionReleased) ht)).2 (standsFrom_haltPlaced h))

/-- The flags of all other kinds stand. -/
theorem alerts_haltPlaced {s : State} {kind : AlertKind} (h : kind ≠ .sectionReleased) :
    (haltPlaced s).management.alerts.get kind = s.management.alerts.get kind := by
  have hraised : ∀ (j : Fin 4), ∀ a ∈ ((haltMoves s).get j).alerts, a.1 ≠ kind := by
    intro j a ha hk
    rw [haltMoves, Four.get_build] at ha
    exact h (hk.symm.trans ((haltSection_raises j _).2 a ha))
  refine alerts_raiseAll_of_ne (fun a ha => ?_) _
  simp only [List.mem_append] at ha
  obtain ((h0 | h1) | h2) | h3 := ha
  · exact hraised 0 a h0
  · exact hraised 1 a h1
  · exact hraised 2 a h2
  · exact hraised 3 a h3

/-- The entries of a record once HALT has handed its outcomes (R151). -/
theorem entries_haltHanded (s : State) (r : Record) :
    (r.handedAll ((haltMoves s).map Moved.outcomes)).entries = r.entries.map fun e =>
      if (s.sec e.sec).state.carrying ∨ (s.sec e.sec).state = .armed ∨ (s.sec e.sec).state = .watching
      then { e with worst := worse e.worst .releasedHalt } else e := by
  rw [Record.handedAll_eq]
  refine List.map_congr_left fun e _ => ?_
  rw [Four.get_map, haltMoves, Four.get_build, worse_haltSection]
  split <;> rfl

/-- RUN's effect in a configured engine that is HALTED (R79). -/
theorem runEffect_of_halted {s : State} (hconf : s.configured = true)
    (hrun : s.controller.run = .halted) : runEffect s =
      ({ s with controller := { s.controller with run := .running } }, Reply.code .ok) := by
  simp [runEffect, hconf, hrun]

/-- RUN is refused otherwise. -/
theorem runEffect_of_not {s : State} (h : s.configured = false ∨ s.controller.run = .running) :
    runEffect s = (s, Reply.code .refusedState) := by
  rcases h with h | h <;> simp [runEffect, h]

/-- Neither records nor answers touch a section. -/
theorem sec_queued_updateOpenRecord (g : Record → Record) (parts : List AnswerPart) (s : State)
    (k : Fin 4) : ((s.updateOpenRecord g).queued parts).sec k = s.sec k := rfl

/-- Settles O42: RUN by its two rows; HALT's effect section by section, with its alerts and outcomes. -/
theorem runAndHalt : Obligations.RunAndHalt := by
  refine ⟨fun s hslot => ⟨fun hconf hrun => congrArg Host.Outcome.next ?runs,
    fun h => congrArg Host.Outcome.next ?refused⟩, fun s hslot => ?halts⟩
  case runs =>
    exact (serve_plain_of_effect (effect := runEffect) hslot
      (runEffect_of_halted (s := s.begin.slotted _) hconf hrun)).trans rfl
  case refused =>
    exact (serve_plain_of_effect (effect := runEffect) hslot
      (runEffect_of_not (s := s.begin.slotted _) h)).trans rfl
  case halts =>
    have hserved := serve_plain_of_effect (code := 8) (a := 0) (b := 0) (c := 0) hslot
      (haltEffect_eq (s.begin.slotted (Request.plain 8 0 0 0)))
    generalize hu : s.begin.slotted (Request.plain 8 0 0 0) = u at hserved
    have hsections : ∀ k, u.sec k = s.sec k := fun k => by rw [← hu]; rfl
    have hrecords : (haltPlaced u).records = s.records := by rw [records_haltPlaced, ← hu]; rfl
    refine ⟨_, congrArg Host.Outcome.next hserved, ?frame, ?run, ?episode, fun k => ?sections,
      fun kind hkind => ?flags, ?next, ?length, ?others, fun hnone => ?unrecorded, fun r hr => ?handed⟩
    case frame =>
      rw [haltPlaced_eq, ← hu]
      rfl
    case run =>
      rw [haltPlaced_eq]
      rfl
    case episode =>
      rw [haltPlaced_eq, ← hu]
      rfl
    case sections =>
      obtain ⟨heligible, hpending, hhold, hfeedback, hfilter, hservice, hcause, hseen, harm⟩ :=
        haltSection_all k (s.sec k)
      rw [sec_queued_updateOpenRecord, sec_haltPlaced, hsections]
      refine ⟨heligible, hpending, hhold, hfeedback, hfilter, hservice, hcause, hseen,
        harm, fun h => ?carrying, fun h => ?waiting, fun h => ?other⟩
      case carrying =>
        obtain ⟨hstate, hleave, hconfirm, htimer, halerts, -⟩ := haltSection_of_carrying k h
        exact ⟨hstate, hleave, hconfirm, htimer, reportsFrom_of_haltPlaced rfl (by rwa [hsections])⟩
      case waiting =>
        obtain ⟨hstate, hleave, halerts, -⟩ := haltSection_of_waiting k h
        exact ⟨hstate, hleave, reportsFrom_of_haltPlaced rfl (by rwa [hsections])⟩
      case other =>
        obtain ⟨hstate, hleave, hconfirm, -⟩ := haltSection_of_other k h
        exact ⟨hstate, hleave, hconfirm⟩
    case flags =>
      have hkept := alerts_haltPlaced (s := u) hkind
      rw [← hu] at hkept ⊢
      exact hkept
    case next => exact (congrArg Records.nextSeq hrecords :)
    case length => exact (updateOpen_length _ _).trans (congrArg (·.list.length) hrecords)
    case others => exact (updateOpen_dropLast _ _).trans (congrArg (·.list.dropLast) hrecords)
    case unrecorded =>
      rw [← hrecords] at hnone
      exact (congrArg (fun rs => { (haltPlaced u).records with list := rs }) (updateOpen_of_none hnone)).trans hrecords
    case handed =>
      rw [← hrecords] at hr
      refine ⟨_, updateOpen_getLast hr, ?_⟩
      obtain ⟨hseq, hopen⟩ := keepsRecord_handedAll ((haltMoves u).map Moved.outcomes) r
      refine ⟨hopen (openRecord_eq_some.1 hr).2, hseq, (entries_haltHanded u r).trans ?_⟩
      simp only [hsections]

end Sys2Proof.Machine
end

section
/-! PROOFS. The DRIVE frame that answers an accepted frame (R82, R117, R124 to R126). -/

namespace Sys2Proof.Machine

/-! ### The engine whose DRIVE frame is sent (R125) -/

/-- The engine as its DRIVE frame is built: sections decided, references published. -/
def driving (c : StepClass) (f : SampleFrame) (s : State) : State :=
  injectionWork (controllerWork (judged c f s)).state

/-- When the slot of an accepted frame is filled its DRIVE frame has left. -/
theorem outPort_atSlot (c : StepClass) (f : SampleFrame) (s : State) :
    (atSlot c f s).outPort = [(sampleDrive (driving c f s)).words] := by
  rw [atSlot, beforeSlot_eq, driving]
  split <;> simp [recorded, answered, judged, measured]

/-- Request slot, answered number and status of the DRIVE frame. -/
theorem driving_inputs (c : StepClass) (f : SampleFrame) (s : State) (k : Fin 4) :
    (driving c f s).management.slot = s.management.slot ∧ (driving c f s).link.lastSeq = f.seq ∧
    (driving c f s).front.status.get k = driverStatus f.status k := by
  obtain ⟨hstatus, -⟩ := viewOf_items c f s k
  obtain ⟨-, hfront, -⟩ := decided_leaves c f s
  have hkept : (driving c f s).front = (decided c f s).front := by
    rw [hfront]
    simp [driving, judged]
  have hlink : (driving c f s).link = (measured c f s).link := by simp [driving, judged]
  refine ⟨by simp [driving, judged, measured], by rw [hlink, link_measured], ?_⟩
  rw [hkept]
  exact hstatus

/-- Its sections and references are those at the end of a frame that applies no table. -/
theorem driving_outputs {c : StepClass} {f : SampleFrame} {s : State} (h : noPending s = true)
    (k : Fin 4) :
    (driving c f s).sec k = (fillOutSlot (atSlot c f s)).sec k ∧
    (driving c f s).injection = (fillOutSlot (atSlot c f s)).injection := by
  obtain ⟨-, -, hcontroller⟩ := acceptedFrame_of_undeferred (c := c) (f := f) (.inl h)
  refine ⟨?_, (injection_answerFrame (judged c f s)).symm⟩
  rw [State.sec, State.sec, hcontroller]
  simp [driving]

/-! ### The words of a DRIVE frame (R124, 11.2) -/

/-- The header of an answering DRIVE frame: kind 3, origin SAMPLE, the slot-free bit. -/
theorem headerWord_sampleDrive (s : State) :
    headerWord 3 s.slotFree false = if s.management.slot.isNone then 19 else 3 := by
  unfold State.slotFree
  cases s.management.slot <;> rfl

/-- A section's four words stand in section order after header and answered number. -/
theorem sampleDrive_words_items (s : State) (k : Fin 4) :
    (sampleDrive s).words.getD (2 + 4 * k.val) 0 =
      Word.ofNat ((driveItems s k).bypass.code + 2 * (driveItems s k).bridge.code) ∧
    (sampleDrive s).words.getD (3 + 4 * k.val) 0 = Word.ofInt (s.injection.get k).refs.a ∧
    (sampleDrive s).words.getD (4 + 4 * k.val) 0 = Word.ofInt (s.injection.get k).refs.b ∧
    (sampleDrive s).words.getD (5 + 4 * k.val) 0 = Word.ofInt (s.injection.get k).refs.c := by
  match k with
  | 0 | 1 | 2 | 3 => exact ⟨rfl, rfl, rfl, rfl⟩

/-- Whether a section's bypass is commanded open (R82). -/
theorem Section.bypass_code (x : Section) : x.bypass.code =
    (x.state == .injecting || x.state == .returningSlewing).toNat := by
  unfold Section.bypass
  cases x.state <;> rfl

/-- Whether a section's bridge is commanded active (R82). -/
theorem Section.bridge_code (x : Section) (bridgeFault : Bool) : (x.bridge bridgeFault).code =
    Bool.toNat (match x.state with
      | .injecting | .returningSlewing | .returningClosing | .releasing => true
      | .fault => !x.closeSeen && !bridgeFault
      | .out | .bypassed | .armed | .watching => false) := by
  unfold Section.bridge
  cases x.state
  case fault => cases x.closeSeen <;> cases bridgeFault <;> rfl
  all_goals rfl

/-- Settles O22: the frame sent first is built from the decided sections and the published references, which
the end of the frame shows. -/
theorem driveFrameOfFrame : Obligations.DriveFrameOfFrame := by
  intro c f s hacc hpend
  have hsent := outPort_atSlot c f s
  refine ⟨_, exec_sampleFrame_of_accepted hacc, ?atMostTwo, (sampleDrive (driving c f s)).words, ?first,
    rfl, sealFrame_crc _, ?header, (driving_inputs c f s 0).2.1, fun k => ?items⟩
  case atMostTwo =>
    rcases fillOutSlot_outPort (atSlot c f s) with h | ⟨ws, h⟩ <;> simp [h, hsent]
  case first =>
    rcases fillOutSlot_outPort (atSlot c f s) with h | ⟨ws, h⟩ <;> simp [h, hsent]
  case header =>
    rw [← (driving_inputs c f s 0).1]
    exact headerWord_sampleDrive (driving c f s)
  case items =>
    obtain ⟨hcommands, hrefs⟩ := sampleDrive_words_items (driving c f s) k
    obtain ⟨-, -, hstatus⟩ := driving_inputs c f s k
    obtain ⟨hsec, hinjection⟩ := driving_outputs (c := c) (f := f) hpend k
    rw [hinjection] at hrefs
    refine ⟨hcommands.trans ?_, hrefs⟩
    have hitems : driveItems (driving c f s) k =
        ⟨((fillOutSlot (atSlot c f s)).sec k).bypass,
          ((fillOutSlot (atSlot c f s)).sec k).bridge (f.status.getLsbD (4 * k.val + 1)),
          ((driving c f s).injection.get k).refs⟩ := by
      rw [← hsec, driveItems, hstatus]
      rfl
    rw [hitems]
    exact congrArg Word.ofNat (congrArg₂ (· + 2 * ·) (Section.bypass_code _) (Section.bridge_code _ _))

end Sys2Proof.Machine
end

section
/-! PROOFS. The end of an episode, and the deferred application of a PENDING image (R94, R107, R164). -/

namespace Sys2Proof.Machine

/-! ### When an episode ends (R107) -/

/-- The states that hold no episode. -/
theorem holdsEpisode_eq_false_iff (st : SecState) : st.holdsEpisode = false ↔
    st ≠ .watching ∧ st ≠ .injecting ∧ st ≠ .returningSlewing ∧ st ≠ .returningClosing ∧
    st ≠ .releasing := by
  cases st <;> decide

/-- No section holds the episode exactly when each does not. -/
theorem noneHolds_iff (secs : Four Section) :
    noneHolds secs = true ↔ ∀ k, (secs.get k).state.holdsEpisode = false := by
  refine ⟨holdsEpisode_of_noneHolds, fun h => ?_⟩
  have hfree : secs.i0.state.holdsEpisode = false ∧ secs.i1.state.holdsEpisode = false ∧
      secs.i2.state.holdsEpisode = false ∧ secs.i3.state.holdsEpisode = false :=
    ⟨h 0, h 1, h 2, h 3⟩
  simp [noneHolds, hfree]

/-- A sag start in the frame of a configured engine, as the controller finds it. -/
theorem sagStarts_judged (c : StepClass) (f : SampleFrame) (s : State) :
    (judged c f s).sagStarts = (s.configured && (judged c f s).detector.sagStart) := by
  rw [State.sagStarts, (configured_stages c f s).2.2]

/-- The frame lowers a signal that is up when the detector is CLEAR and the decisions hold no episode. -/
theorem endsIn_iff (c : StepClass) (f : SampleFrame) (s : State) : endsIn c f s = true ↔
    (s.controller.episode = true ∨ (s.configured = true ∧ (judged c f s).detector.sagStart = true)) ∧
    (judged c f s).detector.state = .clear ∧
    ∀ k, (decisionOf c f s k).sec.state.holdsEpisode = false := by
  have hkept : (judged c f s).controller = s.controller := by simp [judged, measured]
  have hsections : ∀ k, (placeSections (sectionFrames (raiseEpisode (judged c f s)))
      (raiseEpisode (judged c f s))).controller.sections.get k = (decisionOf c f s k).sec := fun k => by
    rw [sections_placeSections, Four.get_map, get_sectionFrames_judged]
    rfl
  have hsignal : (raiseEpisode (judged c f s)).controller.episode =
      (s.controller.episode || (s.configured && (judged c f s).detector.sagStart)) := by
    rw [← sagStarts_judged, ← hkept]
    rfl
  simp only [endsIn, controllerWork, episodeEnds, placeSections_leaves, hsignal, Bool.and_eq_true,
    Bool.or_eq_true, beq_iff_eq, noneHolds_iff, hsections, and_assoc]
  simp [raiseEpisode]

/-- A detector that is CLEAR when the episode ends is CLEAR at the end of the frame (R59). -/
theorem detector_deferredApply_clear {s : State} (h : s.detector.state = .clear) :
    (deferredApply s).detector.state = .clear := by
  rcases detector_deferredApply s with hsame | hsame <;> rw [hsame]
  · exact h
  · simp [Detector.retabled, h]

/-- A frame that ends the episode applies what is PENDING. -/
theorem atSlot_of_ended {c : StepClass} {f : SampleFrame} {s : State} (h : endsIn c f s = true) :
    atSlot c f s = deferredApply (recorded (judged c f s)) := by
  rw [atSlot, beforeSlot_eq]
  exact if_pos h

/-- Detector and sections at the end of a frame that ends the episode. -/
theorem ended_acceptedFrame {c : StepClass} {f : SampleFrame} {s : State} (h : endsIn c f s = true) :
    (fillOutSlot (atSlot c f s)).detector.state = .clear ∧
    ∀ k, ((fillOutSlot (atSlot c f s)).sec k).state.holdsEpisode = false ∧
      ((fillOutSlot (atSlot c f s)).sec k).service = .full := by
  obtain ⟨-, hdetector, -, hcontroller⟩ := recorded_leaves (judged c f s)
  obtain ⟨-, hclear, -⟩ := (endsIn_iff c f s).1 h
  obtain ⟨hsag, hcalm⟩ := calm_of_ended h
  have hsec : ∀ k, (recorded (judged c f s)).sec k = (controllerWork (judged c f s)).state.sec k :=
    fun k => by rw [State.sec, hcontroller, State.sec]
  obtain ⟨-, hquiet⟩ := calm_deferredApply (s := recorded (judged c f s)) (by rw [hdetector, hsag])
    fun k => by rw [hsec]; exact hcalm k
  have hfilled : (fillOutSlot (atSlot c f s)).detector = (deferredApply (recorded (judged c f s))).detector
      ∧ (fillOutSlot (atSlot c f s)).controller =
        (deferredApply (recorded (judged c f s))).controller := by
    simp only [fillOutSlot_leaves, atSlot_of_ended h, and_self]
  have hslot : ∀ k, (fillOutSlot (atSlot c f s)).sec k =
      (deferredApply (recorded (judged c f s))).sec k := fun k => by
    rw [State.sec, hfilled.2, State.sec]
  refine ⟨?_, fun k => ?_⟩
  · rw [hfilled.1]
    exact detector_deferredApply_clear (by rw [hdetector, hclear])
  · rw [hslot]
    refine ⟨holdsEpisode_deferredApply ?_, (hquiet k).2⟩
    rw [hsec]
    exact holdsEpisode_of_ended h k

/-! ### The image that a lowered signal applies (R164) -/

/-- The items of an engine in which the PENDING image of `s` has been applied. -/
structure AppliedFrom (s : State) (table : TableId) (n : Nat) (t : State) : Prop where
  tables : ∀ other, t.loader.tables.get other =
    if other = table then some (stagingImage n s.loader.staging) else s.loader.tables.get other
  load : t.loader.load = .idle
  staging : t.loader.staging = []
  locks : t.loader.locks = s.loader.locks

/-- The deferred application of a PENDING image, in an engine with the loader of `s`. -/
theorem appliedFrom_deferredApply {s u : State} {table : TableId} {n : Nat}
    (hload : s.loader.load = .pending table n) (hloader : u.loader = s.loader) :
    AppliedFrom s table n (deferredApply u) ∧
    (deferredApply u).management.alerts.get .commitDone = some ⟨Word.ofNat table.number, 0⟩ := by
  obtain ⟨htables, hidle, hstaging, halert⟩ :=
    deferredApply_of_pending (s := u) ((congrArg Loader.load hloader).trans hload)
  refine ⟨⟨fun other => ?_, hidle, hstaging, by simp [hloader]⟩, halert⟩
  rw [htables, Tables.get_set, hloader]
  simp only [eq_comm]

/-- Items of the loader are those of the loader. -/
theorem AppliedFrom.congr {s t u : State} {table : TableId} {n : Nat} (h : AppliedFrom s table n t)
    (hloader : u.loader = t.loader) : AppliedFrom s table n u := by
  obtain ⟨htables, hidle, hstaging, hlocks⟩ := h
  exact ⟨by rwa [hloader], by rwa [hloader], by rwa [hloader], by rwa [hloader]⟩

/-- A frame that ends the episode applies the PENDING image. -/
theorem appliedFrom_acceptedFrame {c : StepClass} {f : SampleFrame} {s : State} {table : TableId}
    {n : Nat} (hload : s.loader.load = .pending table n) (h : endsIn c f s = true) :
    AppliedFrom s table n (fillOutSlot (atSlot c f s)) ∧
    (fillOutSlot (atSlot c f s)).reports .commitDone ⟨Word.ofNat table.number, 0⟩ = true := by
  obtain ⟨-, -, hloader, -⟩ := recorded_leaves (judged c f s)
  obtain ⟨happlied, halert⟩ := appliedFrom_deferredApply hload
    (hloader.trans (loader_stages c f s).2.2)
  rw [← atSlot_of_ended h] at happlied halert
  exact ⟨happlied.congr (by simp), fillOutSlot_reports halert⟩

/-- An expiry in RUNNING that ends an episode applies the PENDING image (R7, R107). -/
theorem appliedFrom_expiryRunning {s : State} {table : TableId} {n : Nat}
    (hload : s.loader.load = .pending table n) (hup : s.controller.episode = true) :
    AppliedFrom s table n (expiryRunning s) ∧
    (expiryRunning s).reports .commitDone ⟨Word.ofNat table.number, 0⟩ = true := by
  have hlowered : lowerAndApply (blocksSilenced s) = deferredApply
      { blocksSilenced s with controller := (blocksSilenced s).controller.lowered } :=
    if_pos (by simpa using hup)
  obtain ⟨happlied, halert⟩ := appliedFrom_deferredApply (s := s) (u :=
    { blocksSilenced s with controller := (blocksSilenced s).controller.lowered }) hload (by simp)
  rw [← hlowered] at happlied halert
  unfold expiryRunning
  dsimp only
  split
  · exact ⟨happlied.congr (by simp), fillOutSlot_reports halert⟩
  · exact ⟨happlied, by simp [State.reports, halert]⟩

/-- Settles O35: while the signal stays up the end of the frame shows what decided it; once lowered, no table
gives a section an episode to hold. -/
theorem deferredApplication : Obligations.DeferredApplication := by
  refine ⟨fun c f s hacc => ⟨_, exec_sampleFrame_of_accepted hacc, ?ends, ?signal,
      fun hends k => ((ended_acceptedFrame hends).2 k).2⟩,
    fun s table n hload => ⟨fun c f hacc hends => ?frame, fun hline htimer hrun hup => ?expiry⟩⟩
  case ends =>
    have hstart : (fillOutSlot (atSlot c f s)).detector.sagStart = (judged c f s).detector.sagStart := by
      simp [atSlot]
    simp only [hstart, ← holdsEpisode_eq_false_iff]
    constructor
    · intro hends
      obtain ⟨hclear, hsecs⟩ := ended_acceptedFrame hends
      exact ⟨((endsIn_iff c f s).1 hends).1, hclear, fun k => (hsecs k).1⟩
    · rintro ⟨hup, hclear, hsecs⟩
      by_contra hgoes
      have hgoes := Bool.eq_false_iff.2 hgoes
      obtain ⟨-, hdetector, -⟩ := acceptedFrame_of_undeferred (c := c) (f := f) (.inr hgoes)
      have hends := (endsIn_iff c f s).2 ⟨hup, hdetector ▸ hclear, fun k => by
        rw [← sec_acceptedFrame_of_up hgoes k]
        exact hsecs k⟩
      rw [hends] at hgoes
      cases hgoes
  case signal =>
    have hkept : (judged c f s).controller = s.controller := by simp [judged, measured]
    have hstart : (fillOutSlot (atSlot c f s)).detector.sagStart = (judged c f s).detector.sagStart := by
      simp [atSlot]
    have hsignal := episode_beforeSlot (judged c f s)
    rw [sagStarts_judged, hkept, ← endsIn, ← atSlot] at hsignal
    have hfilled : (fillOutSlot (atSlot c f s)).controller.episode =
        ((s.controller.episode || (s.configured && (judged c f s).detector.sagStart)) &&
          !endsIn c f s) := by
      simp only [fillOutSlot_leaves, hsignal]
    simp only [hstart, hfilled, Bool.and_eq_true, Bool.or_eq_true, Bool.not_eq_true', and_comm]
  case frame =>
    have hdown := episode_beforeSlot (judged c f s)
    rw [← endsIn, ← atSlot, hends, Bool.not_true, Bool.and_false] at hdown
    obtain ⟨happlied, hreports⟩ := appliedFrom_acceptedFrame hload hends
    exact ⟨_, exec_sampleFrame_of_accepted hacc, by simpa using hdown, happlied.tables, happlied.load,
      happlied.staging, happlied.locks, hreports⟩
  case expiry =>
    have hexpires : silenceExpires s.begin = expiryRunning s.begin := by
      rw [silenceExpires_of_timer (s := s.begin) hline htimer, controller_begin, hrun]
    obtain ⟨happlied, hreports⟩ := appliedFrom_expiryRunning (s := s.begin) hload hup
    obtain ⟨-, -, -, hcontroller, -⟩ := expiryRunning_blocks s.begin
    exact ⟨_, congrArg Host.Outcome.next hexpires, by rw [hcontroller, episode_lowerAndApply],
      happlied.tables, happlied.load, happlied.staging, happlied.locks, hreports⟩

end Sys2Proof.Machine
end

section
/-! PROOFS. The OPEN record in a frame that is no sag-start frame (R120, R150 to R153). -/

namespace Sys2Proof.Machine

/-! ### The list of records (R148, R149) -/

/-- Outside a sag-start frame the list is the one before the frame, its OPEN record brought up to date. -/
theorem records_acceptedFrame_of_noStart {c : StepClass} {f : SampleFrame} {s : State}
    (hstart : (judged c f s).detector.sagStart = false) :
    (fillOutSlot (atSlot c f s)).records = s.records.withOpen
      (Record.framed (controllerWork (judged c f s)).outcomes (endsIn c f s)
        (answered (judged c f s))) := by
  obtain ⟨-, -, -, -, hrecords, -, hstarts⟩ := answered_leaves (judged c f s)
  have hkept : (judged c f s).records = s.records := by simp [judged, measured]
  have hnone : (answered (judged c f s)).sagStarts = false := by
    rw [hstarts, sagStarts_judged, hstart, Bool.and_false]
  rw [records_acceptedFrame, recorded, records_recordWork, opened_eq, hnone, if_neg Bool.false_ne_true,
    hrecords, hkept]
  rfl

/-- A frame's work on a record, field by field (R150 to R153). -/
theorem Record.framed_eq (os : Four (List EntryOutcome)) (ended : Bool) (s : State) (r : Record) :
    r.framed os ended s = { r.headed s with
      isOpen := if ended then false else r.isOpen
      endCause := if ended then some .recovered else r.endCause
      episodeDuration := if ended then some (s.frameNumber - r.startFrame) else r.episodeDuration
      entries := r.entries.map fun e =>
        { e with worst := (os.get e.sec).foldl worse e.worst }.updated s } := by
  rw [Record.framed, Record.handedAll_eq]
  cases ended with
  | false =>
    simp only [Record.updated, Record.headed, List.map_map]
    rfl
  | true =>
    simp only [Record.updated, Record.headed, Record.closed, List.map_map]
    rfl

/-- The end of the episode is reported with the number of its record (R153). -/
theorem alerts_recordWork_of_ended {s : State} {r : Record} (hstart : s.sagStarts = false)
    (h : openRecord s.records.list = some r) (os : Four (List EntryOutcome)) :
    (recordWork os true s).management.alerts.get .episodeEnd = some ⟨r.seq, 0⟩ := by
  obtain ⟨es, hes⟩ := openRecord_handAll h os
  have hopen : r.isOpen = true := (openRecord_eq_some.1 h).2
  have hupdated : openRecord
      ((handAll os s).updateOpenRecord (Record.updated (handAll os s))).records.list =
        some ({ r with entries := es }.updated (handAll os s)) := openRecord_updateOpen hes hopen
  simp only [recordWork, hstart, Bool.false_eq_true, if_false, if_true, hupdated]
  simp [Management.raised, Record.updated, Record.headed]

/-- So it is at the end of the frame (R164, R181). -/
theorem reports_episodeEnd {c : StepClass} {f : SampleFrame} {s : State} {r : Record}
    (hstart : (judged c f s).detector.sagStart = false) (h : openRecord s.records.list = some r)
    (hends : endsIn c f s = true) :
    (fillOutSlot (atSlot c f s)).reports .episodeEnd ⟨r.seq, 0⟩ = true := by
  obtain ⟨-, -, -, -, hrecords, -, hstarts⟩ := answered_leaves (judged c f s)
  have hkept : (judged c f s).records = s.records := by simp [judged, measured]
  have hended : (controllerWork (judged c f s)).ended = true := hends
  refine fillOutSlot_reports ?_
  rw [atSlot_of_ended hends, alerts_deferredApply (by decide), recorded, hended]
  exact alerts_recordWork_of_ended (by rw [hstarts, sagStarts_judged, hstart, Bool.and_false])
    (by rw [hrecords, hkept, h]) _

/-! ### What the record unit reads, at the end of the frame -/

/-- Levels, store level, detector items and energies that the record unit reads are those at the end of the
frame. -/
theorem recordInputs_acceptedFrame (c : StepClass) (f : SampleFrame) (s : State) :
    let u := answered (judged c f s)
    let t := fillOutSlot (atSlot c f s)
    u.levels = t.levels ∧ u.store.level = t.store.level ∧ u.frameNumber = t.link.counter ∧
    u.injection = t.injection ∧ u.detector.involved = t.detector.involved ∧
    u.detector.phaseJump = t.detector.phaseJump ∧ u.detector.sagEnd = t.detector.sagEnd ∧
    u.detector.sagDuration = t.detector.sagDuration ∧ u.detector.elapsed = t.detector.elapsed := by
  have hinjection : (fillOutSlot (atSlot c f s)).injection = (answered (judged c f s)).injection := by
    have hunit := injection_answerFrame (judged c f s)
    rw [answerFrame] at hunit
    simpa [answered, atSlot] using hunit
  refine ⟨?_, ?_, ?_, hinjection.symm, ?_⟩ <;>
    simp [State.levels, State.frameNumber, answered, atSlot]

/-- A section injects at the end of the frame exactly when the record unit finds it so (R107). -/
theorem injecting_acceptedFrame (c : StepClass) (f : SampleFrame) (s : State) (k : Fin 4) :
    ((answered (judged c f s)).sec k).state = .injecting ↔
      ((fillOutSlot (atSlot c f s)).sec k).state = .injecting := by
  have hanswered : (answered (judged c f s)).sec k = (controllerWork (judged c f s)).state.sec k := by
    simp [State.sec, answered]
  rw [hanswered]
  cases hends : endsIn c f s with
  | true =>
    have hfree := holdsEpisode_of_ended hends k
    have hstays := ((ended_acceptedFrame hends).2 k).1
    rw [holdsEpisode_eq_false_iff] at hfree hstays
    exact iff_of_false hfree.2.1 hstays.2.1
  | false =>
    obtain ⟨-, -, hcontroller⟩ := acceptedFrame_of_undeferred (c := c) (f := f) (.inr hends)
    rw [State.sec, State.sec, hcontroller]

/-- The service level tells outcomes apart in INJECTING alone (R108). -/
theorem frameOutcome_of_notInjecting {sagStart : Bool} {x y : Section} (h : y.state ≠ .injecting)
    (service : Service) :
    frameOutcome sagStart x { y with service := service } = frameOutcome sagStart x y := by
  unfold frameOutcome
  cases hstate : y.state with
  | injecting => exact absurd hstate h
  | out | bypassed | armed | watching | returningSlewing | returningClosing | releasing | fault => rfl

/-- The outcomes of section k come to that of its transition in the frame (R108, R151). -/
theorem outcomes_of_noStart {c : StepClass} {f : SampleFrame} {s : State}
    (hstart : (judged c f s).detector.sagStart = false) (hpend : noPending s = true) (k : Fin 4)
    (kept : EntryOutcome) :
    (((controllerWork (judged c f s)).outcomes).get k).foldl worse kept =
      worstAfter kept (frameOutcome false (s.sec k) ((fillOutSlot (atSlot c f s)).sec k)) := by
  have hview : (viewOf c f s k).sagStart = false := by
    have hstarts := sagStarts_judged c f s
    rw [hstart, Bool.and_false] at hstarts
    exact hstarts
  have houtcomes : ((controllerWork (judged c f s)).outcomes).get k = (movedOf c f s k).outcomes := by
    rw [← get_sectionFrames_judged]
    exact Four.get_map _ _ k
  have houtcome : frameOutcome false (s.sec k) ((fillOutSlot (atSlot c f s)).sec k) =
      frameOutcome false (s.sec k) (movedOf c f s k).sec := by
    rw [sec_acceptedFrame (.inl hpend) k]
    cases hends : endsIn c f s with
    | false => rfl
    | true =>
      obtain ⟨-, -, hfree⟩ := (endsIn_iff c f s).1 hends
      exact frameOutcome_of_notInjecting ((holdsEpisode_eq_false_iff _).1 (hfree k)).2.1 _
  rw [houtcome, houtcomes, ← hview]
  exact sectionFrame_handsTransition k (viewOf c f s k) (s.sec k) kept

/-- The signal at the end of a frame in an episode (R107). -/
theorem episode_acceptedFrame {c : StepClass} {f : SampleFrame} {s : State}
    (h : s.controller.episode = true) :
    (fillOutSlot (atSlot c f s)).controller.episode = !endsIn c f s := by
  have hkept : (judged c f s).controller = s.controller := by simp [judged, measured]
  have hsignal := episode_beforeSlot (judged c f s)
  rw [hkept, h, Bool.true_or, Bool.true_and, ← endsIn, ← atSlot] at hsignal
  simp only [fillOutSlot_leaves, hsignal]

/-- The forced return that the record unit finds (R33). -/
theorem forcedReturn_answered {c : StepClass} {f : SampleFrame} {s : State} (h : s.configured = true) :
    (answered (judged c f s)).tracker.marks.forcedReturn = forcedIn c f s := by
  obtain ⟨-, htracker, -⟩ := answered_leaves (judged c f s)
  obtain ⟨-, -, -, -, -, -, hmarks⟩ := live_judged (c := c) (f := f) h
  simp [htracker, hmarks, marksIn]

/-- Settles O34: the frame's work on the OPEN record, field by field, read at the end of the frame. -/
theorem openRecordUpdate : Obligations.OpenRecordUpdate := by
  refine ⟨fun c f s hacc hnone hstart => ⟨_, exec_sampleFrame_of_accepted hacc, ?unrecorded⟩, rfl,
    fun c f s r hacc hopen hepisode hstart => ?recorded⟩
  case unrecorded =>
    rw [records_acceptedFrame_of_noStart hstart, Records.withOpen, updateOpen_of_none hnone]
  case recorded =>
    obtain ⟨hlevels, hlevel, hframe, hinjection, hinvolved, hjump, hend, hduration, helapsed⟩ :=
      recordInputs_acceptedFrame c f s
    have hrecords := records_acceptedFrame_of_noStart hstart
    have hsignal := episode_acceptedFrame (c := c) (f := f) hepisode
    have hup : ∀ {ended : Bool}, (fillOutSlot (atSlot c f s)).controller.episode = !ended →
        endsIn c f s = ended := fun h => Bool.not_inj (hsignal.symm.trans h)
    refine ⟨_, exec_sampleFrame_of_accepted hacc, by rw [hrecords]; rfl,
      by rw [hrecords]; exact updateOpen_dropLast _ _, ?_⟩
    intro enter
    have henter : ∀ m l, enter m l = enterLevel m l := fun m l => (enterLevel_eq m l).symm
    rw [hrecords]
    refine ⟨_, updateOpen_getLast hopen, ?_⟩
    rw [Record.framed_eq]
    refine ⟨rfl, rfl, rfl, rfl, congrArg (min r.fLowest) hlevel, hinvolved, hjump, fun h => ?atEnd,
      fun h => ?beforeEnd, fun hconf => ?forced, fun p => ?supply, ?isOpen, fun h => ?goesOn,
      fun h => ?closes, ?entries, fun hpend => ?worst⟩
    case atEnd => exact (if_pos (hend.trans h)).trans hduration
    case beforeEnd => exact if_neg (by rw [hend, h]; exact Bool.false_ne_true)
    case forced => exact congrArg (r.forced || ·) (forcedReturn_answered hconf)
    case supply =>
      rw [henter, ← hlevels]
      exact Phases.get_build _ p
    case isOpen =>
      rw [hsignal, (openRecord_eq_some.1 hopen).2]
      cases endsIn c f s <;> rfl
    case goesOn =>
      rw [hup (ended := false) h]
      exact ⟨rfl, rfl⟩
    case closes =>
      have hends := hup (ended := true) h
      rw [hends]
      exact ⟨rfl, by rw [← hframe]; rfl, reports_episodeEnd hstart hopen hends⟩
    case entries =>
      rw [List.map_map]
      refine List.map_congr_left fun e _ => ?_
      have hinjecting := injecting_acceptedFrame c f s e.sec
      simp only [State.sec] at hinjecting
      simp only [Function.comp_apply, Entry.updated, henter, ← hlevels, ← hinjection, ← helapsed,
        ← hinjecting, State.sec, addEnergy, clampInt, Config.energyBound]
    case worst =>
      rw [List.map_map]
      exact List.map_congr_left fun e _ => outcomes_of_noStart hstart hpend e.sec e.worst

end Sys2Proof.Machine
end
